-- ==== Sys2Proof/Word.lean ====
section
/-! DEFINITION. The machine's word types (00_scope.md R8: `u8`, `u16`, `u17`, `s16`, `s32`).

A bit vector carries no sign of its own: where the spec calls a quantity signed, the definitions
that use it read it with `BitVec.toInt` and widen it with `BitVec.signExtend`; where it is
unsigned, with `BitVec.toNat` and `BitVec.setWidth`. -/

namespace Sys2Proof

/-- `u8`: a byte of a ROM or of text memory. -/
abbrev Byte := BitVec 8

/-- `u16` or `s16`: a 16-bit register, a bitmap column, an index entry. -/
abbrev Half := BitVec 16

/-- `u17`: the text cursor and glyph ROM offsets (R31, R143). -/
abbrev Offset := BitVec 17

/-- `s32`: pen quantities, pixel coordinates and the host interface's values (R10, R36). -/
abbrev Word := BitVec 32

end Sys2Proof
end

