-- ==== Sys2Proof/Config.lean ====
section
/-! DEFINITION. The parameters of an implementation (00_scope.md R6, 10_state.md R46): the two
constants the source fixes, the ones this spec fixes, and the open parameters, which are opaque
constants so that nothing can be proved of their values. -/

namespace Sys2Proof

/-- The byte order of a 16-row column's two bytes (R68, R138, decision D15). -/
inductive Col16Order where
  | lowFirst
  | highFirst
  deriving DecidableEq, Repr

/-- Why a font has no meaning at some point of a run (R140, U1 to U4). The hardware checks none of
these (R142); they name the places where the rules give no next step. -/
inductive FontDefect where
  /-- A glyph ROM read at an address not below FONT_BYTES (R62, U1). -/
  | romRange
  /-- An index entry in -2 to -32768 (R101, U2). -/
  | reservedIndex
  /-- A record used as a glyph has no column (R139, U3). -/
  | noColumns
  /-- A 16-row record used as a glyph has an odd bitmap length (R136, U4). -/
  | oddBitmap
  /-- The sentinel used as a glyph: it has no field but its zero length (R130). -/
  | sentinelGlyph
  deriving DecidableEq, Repr

/-- What one PFLE is built with: the two ROMs and the byte parameters (R6, R46). -/
structure Params where
  /-- FONT: the bytes of the glyph ROM from address 0; its length is FONT_BYTES. -/
  font : List Byte
  /-- INDEX: the 64 signed 16-bit words of the index ROM (R63). -/
  index : Vector Half 64
  /-- KRESET_BYTE (R112, D9). -/
  kreset : Byte
  /-- ESC_BYTE (R116, D10). -/
  esc : Byte
  /-- COL16_ORDER (R68, D15). -/
  col16 : Col16Order
  deriving DecidableEq, Repr

namespace Config

/-- SPACE_BYTE (R6, R111, D8). -/
abbrev spaceByte : Byte := 0x20#8

/-- SPACE_WIDTH = 3 (R6). -/
abbrev spaceWidth : Word := 3#32

/-- TNUM_WIDTH = 5 (R6). -/
abbrev tnumWidth : Word := 5#32

/-- COL16_ORDER = LOW_FIRST (R6, D15). -/
abbrev col16Order : Col16Order := .lowFirst

/-- What a byte of text memory that nothing has placed reads as. DESIGN CHOICE, unsafe (log 4):
R47 calls text memory unspecified after reset. -/
abbrev textDefault : Byte := 0x00#8

/-- FONT, an open parameter (R6, D17). Log 2. -/
opaque font : List Byte

/-- INDEX, an open parameter (R6, D16). Log 2. -/
opaque index : Vector Half 64

/-- KRESET_BYTE, an open parameter (R6, D9). Log 2. -/
opaque kresetByte : Byte

/-- ESC_BYTE, an open parameter (R6, D10). Log 2. -/
opaque escByte : Byte

/-- `surf_w`, the width the pixel sink reports, an input of every command (R35, D18). Log 2. -/
opaque surfW : Half

/-- The parameters a PFLE holds from power-up on (R272). -/
def params : Params :=
  { font := font, index := index, kreset := kresetByte, esc := escByte, col16 := col16Order }

end Config

end Sys2Proof
end

