-- ==== Sys2Proof/Machine/Font.lean ====
section
/-! DEFINITION. The Font Table: the accessors of 40_font_table.md over the glyph ROM, and the
record sequence of R141 read from the record format of 30_encoding.md R95 to R98. An accessor
answers a defect where a read it makes has no meaning (20_memory.md R62). -/

namespace Sys2Proof.Font

/-! ### The accessors (40_font_table.md) -/

/-- `G[a]`: one byte of the glyph ROM; there is none at or above FONT_BYTES, nor at or above 65536,
the largest FONT_BYTES (R61, R62). -/
def romByte (p : Params) (a : Nat) : Except FontDefect Byte :=
  if a < 65536 then
    match p.font[a]? with
    | some b => .ok b
    | none => .error .romRange
  else .error .romRange

/-- `key_len(o)` (R130). -/
def keyLen (p : Params) (o : Nat) : Except FontDefect Byte :=
  romByte p o

/-- `key_byte(o, i)` (R131). -/
def keyByte (p : Params) (o i : Nat) : Except FontDefect Byte :=
  romByte p (o + 1 + i)

/-- `blf(o)`, the byte `bitmap_len_and_flag` (R132). -/
def blf (p : Params) (o : Nat) : Except FontDefect Byte := do
  let kl ← keyLen p o
  romByte p (o + 1 + kl.toNat)

/-- Bit 7 of `bitmap_len_and_flag`: a 16-row glyph (R96). -/
def flagOf (b : Byte) : Bool := b.getLsbD 7

/-- Bits 6:0 of `bitmap_len_and_flag`: the bitmap's length in bytes (R96). -/
def lenOf (b : Byte) : BitVec 7 := b.setWidth 7

/-- `h16(o)`, the height class (R133). -/
def h16 (p : Params) (o : Nat) : Except FontDefect Bool := do
  let b ← blf p o
  pure (flagOf b)

/-- `bitmap_len(o)` (R134). -/
def bitmapLen (p : Params) (o : Nat) : Except FontDefect (BitVec 7) := do
  let b ← blf p o
  pure (lenOf b)

/-- `bitmap_ptr(o)` (R135). -/
def bitmapPtr (p : Params) (o : Nat) : Except FontDefect Nat := do
  let kl ← keyLen p o
  pure (o + 2 + kl.toNat)

/-- The column count from the height class and the bitmap length (R136). -/
def colsOf (tall : Bool) (bl : BitVec 7) : BitVec 7 :=
  if tall then bl >>> 1 else bl

/-- `cols(o)`, the column count (R136). -/
def cols (p : Params) (o : Nat) : Except FontDefect (BitVec 7) := do
  let b ← blf p o
  pure (colsOf (flagOf b) (lenOf b))

/-- `rec_len(o)`, the step to the next record (R137). -/
def recLen (p : Params) (o : Nat) : Except FontDefect Nat := do
  let kl ← keyLen p o
  let bl ← bitmapLen p o
  pure (2 + kl.toNat + bl.toNat)

/-- A 16-row column from the byte at the lower and the byte at the next address (R97, R138). -/
def column16 (order : Col16Order) (b0 b1 : Byte) : Half :=
  match order with
  | .lowFirst => b0.setWidth 16 ||| (b1.setWidth 16 <<< 8)
  | .highFirst => b1.setWidth 16 ||| (b0.setWidth 16 <<< 8)

/-- `column(o, c)`, column `c` as a mask of rows, row 0 in bit 0 (R97, R138). -/
def column (p : Params) (o c : Nat) : Except FontDefect Half := do
  let tall ← h16 p o
  let bp ← bitmapPtr p o
  if tall then do
    let b0 ← romByte p (bp + 2 * c)
    let b1 ← romByte p (bp + 2 * c + 1)
    pure (column16 p.col16 b0 b1)
  else do
    let b ← romByte p (bp + c)
    pure (b.setWidth 16)

/-- The columns `c`, `c + 1`, ..., `c + k - 1` of the record at `o`, in ascending order. -/
def columnsFrom (p : Params) (o c : Nat) : Nat → Except FontDefect (List Half)
  | 0 => .ok []
  | k + 1 => do
    let x ← column p o c
    let xs ← columnsFrom p o (c + 1) k
    pure (x :: xs)

/-- The bucket of a byte: its top six bits, `b >> 2` (R100). -/
def bucket (b : Byte) : BitVec 6 := b.extractLsb' 2 6

/-- `IDX[b >> 2]`, the index entry of the bucket of `b` (R63, R152). -/
def indexEntry (p : Params) (b : Byte) : Half :=
  p.index.get (bucket b).toFin

/-! ### The record sequence (R141), read from the format (R95) -/

/-- One glyph record: where it starts in the glyph ROM and its fields (R95). -/
structure Record where
  off : Nat
  key : List Byte
  tall : Bool
  bitmap : List Byte
  deriving DecidableEq, Repr

/-- The first byte of a record's key. -/
def firstByte (r : Record) : Byte := r.key.headD 0

/-- The record's whole length in bytes (R95, R137). -/
def recordLength (r : Record) : Nat := 2 + r.key.length + r.bitmap.length

/-- The columns of a bitmap, leftmost first (R97). A last half column is dropped. -/
def bitmapColumns (order : Col16Order) : Bool → List Byte → List Half
  | false, bs => bs.map (fun b => b.setWidth 16)
  | true, b0 :: b1 :: bs => column16 order b0 b1 :: bitmapColumns order true bs
  | true, _ => []

/-- The columns of a record. -/
def recordColumns (order : Col16Order) (r : Record) : List Half :=
  bitmapColumns order r.tall r.bitmap

/-- The records of the bytes `bs` that stand at offset `off`, up to the sentinel; none where the
bytes end before a sentinel (R95, R98, R141). The fuel is the number of records looked at. -/
def parseRecords : Nat → Nat → List Byte → Option (List Record)
  | 0, _, _ => none
  | _ + 1, _, [] => none
  | k + 1, off, kl :: bs =>
    if kl = 0 then some []
    else
      match bs.drop kl.toNat with
      | [] => none
      | f :: rest =>
        let bl := (lenOf f).toNat
        if rest.length < bl then none
        else
          match parseRecords k (off + 2 + kl.toNat + bl) (rest.drop bl) with
          | none => none
          | some rs =>
            some ({ off := off, key := bs.take kl.toNat, tall := flagOf f,
                    bitmap := rest.take bl } :: rs)

/-- The record sequence `o_0, o_1, ...` of a font (R141); none where it reaches no sentinel. -/
def records (p : Params) : Option (List Record) :=
  parseRecords (p.font.length + 1) 0 p.font

/-- The record at offset `o`, if the font has one there. -/
def recordAt (p : Params) (o : Nat) : Option Record :=
  match records p with
  | none => none
  | some rs => rs.find? (fun r => r.off == o)

end Sys2Proof.Font
end

