-- ==== Sys2Proof/Machine/Resolver.lean ====
section
/-! DEFINITION. The Glyph Resolver (41_resolver.md R150 to R158), a pure function of the font, the
index and the input bytes (20_memory.md R79). `.ok (some o)` is `Found(o)`, `.ok none` is
`NotFound`; a defect is a font the rules give no step for (R140). -/

namespace Sys2Proof.Font

/-- Test (iii): are the `k` key bytes at address `a` a prefix of the input (R153, R154)? A key
longer than the input never matches. -/
def keyMatches (p : Params) : Nat → Nat → List Byte → Except FontDefect Bool
  | _, 0, _ => .ok true
  | _, _ + 1, [] => .ok false
  | a, k + 1, b :: q => do
    let x ← romByte p a
    if x = b then keyMatches p (a + 1) k q else pure false

/-- The scan loop from the record at `o` for the input `q0 :: q` (R153). Every iteration moves `o`
by at least two bytes, so within FONT_BYTES + 1 of them it has ended or left the ROM. -/
def scanRecords (p : Params) (q0 : Byte) (q : List Byte) : Nat → Nat → Except FontDefect (Option Nat)
  | 0, _ => .error .romRange
  | fuel + 1, o => do
    let kl ← keyLen p o
    if kl = 0 then pure none
    else
      let k0 ← keyByte p o 0
      if q0 < k0 then pure none
      else
        let hit ← keyMatches p (o + 1) kl.toNat (q0 :: q)
        if hit then pure (some o)
        else
          let len ← recLen p o
          scanRecords p q0 q fuel (o + len)

/-- `Resolve(q, L)` for the input `q` of length `L` (R150 to R153). -/
def resolve (p : Params) : List Byte → Except FontDefect (Option Nat)
  | [] => .ok none
  | q0 :: q =>
    let e := indexEntry p q0
    if e = 0xFFFF#16 then .ok none
    else if e.msb then .error .reservedIndex
    else scanRecords p q0 q (p.font.length + 1) e.toNat

end Sys2Proof.Font
end

