-- ==== Sys2Proof/Syntax.lean ====
section
/-! DEFINITION. The instructions: one constructor of `Instr` for each row of
spec/opcode_table.json, and the host's accesses (10_state.md R36), which carry commands to the
engine. -/

namespace Sys2Proof

/-- The alignment field `al` of a LAYOUT command word (30_encoding.md R91, R93). -/
inductive Align where
  | left
  | right
  | center
  deriving DecidableEq, Repr

/-- The ten rows of the opcode table: four commands (R92), four text tokens (R110) and two
pseudo-commands of the host (R119). -/
inductive Instr where
  /-- LAYOUT.L with the options TABULAR (`tb`) and MEASURE_ONLY (`m`). -/
  | layoutL (tb m : Bool)
  /-- LAYOUT.R. -/
  | layoutR (tb m : Bool)
  /-- LAYOUT.C. -/
  | layoutC (tb m : Bool)
  /-- RESOLVE. -/
  | resolve
  /-- SP, the space byte. -/
  | sp
  /-- KR, the kerning-reset byte. -/
  | kr
  /-- GLYPH(o): the token that is the key of the font record at glyph ROM offset `o` (R189). -/
  | glyph (o : Offset)
  /-- SKIP of the unresolvable byte `b`. -/
  | skip (b : Byte)
  /-- TEXT_LEFT addr, len, x, y, maxw: the values its register writes carry (R119). -/
  | textLeft (addr len x y maxw : Word)
  /-- TEXT_CENTERED addr, len, x, y, w. -/
  | textCentered (addr len x y w : Word)
  deriving DecidableEq, Repr

/-- What the host and the platform do between commands (10_state.md R36, 30_encoding.md R118). -/
inductive HostOp where
  /-- `WR`: RegWrite(k, v). -/
  | regWrite (k : Nat) (v : Word)
  /-- `RD`: RegRead(k). -/
  | regRead (k : Nat)
  /-- One byte of a `.text` directive: the platform places `b` at text address `a`. -/
  | placeText (a : Half) (b : Byte)
  /-- A `.surf_w` directive: the pixel sink reports the width `v` from now on. -/
  | setSurfW (v : Half)
  /-- The wrapper TEXT_LEFT called as one line of a host program (R219). -/
  | textLeft (addr len x y maxw : Word)
  /-- The wrapper TEXT_CENTERED called as one line of a host program (R220). -/
  | textCentered (addr len x y w : Word)
  deriving DecidableEq, Repr

end Sys2Proof
end

