-- ==== Sys2Proof/Decode.lean ====
section
/-! DEFINITION. The decoders: command words (30_encoding.md R91 to R94), text tokens (R110,
42_layout_tokens.md R173) and wrapper calls (R119); and the encoders, from the same tables. -/

namespace Sys2Proof

/-- Why an encoding is no instruction. -/
inductive DecodeError where
  /-- A command word with `v[31:8] != 0` (R94). -/
  | reservedBits
  /-- A command word whose `op` is neither 1 nor 2 (R94). -/
  | reservedOp
  /-- A LAYOUT word with `al = 3` (R94). -/
  | reservedAlign
  /-- A RESOLVE word with one of bits 3:0 set (R94). -/
  | resolveOptions
  /-- No text byte is left, so there is no token (R172). -/
  | endOfText
  /-- The resolver has no meaning on this font (R140). -/
  | badFont (d : FontDefect)
  /-- A sequence of host accesses that is no wrapper's expansion (R119). -/
  | noWrapper
  deriving DecidableEq, Repr

/-! ### Command words -/

/-- Field `zero`, bits 31:8 (R91). -/
def cmdZero (v : Word) : BitVec 24 := v.extractLsb' 8 24
/-- Field `op`, bits 7:4 (R91). -/
def cmdOp (v : Word) : BitVec 4 := v.extractLsb' 4 4
/-- Field `m`, bit 3 (R91). -/
def cmdM (v : Word) : Bool := v.getLsbD 3
/-- Field `tb`, bit 2 (R91). -/
def cmdTb (v : Word) : Bool := v.getLsbD 2
/-- Field `al`, bits 1:0 (R91). -/
def cmdAl (v : Word) : BitVec 2 := v.extractLsb' 0 2

/-- The command a word written to CMD selects (R91, R92), or why it is illegal (R94). -/
def decodeCmd (v : Word) : Except DecodeError Instr :=
  if cmdZero v ≠ 0 then .error .reservedBits
  else if cmdOp v = 1 then
    if cmdAl v = 0 then .ok (.layoutL (cmdTb v) (cmdM v))
    else if cmdAl v = 1 then .ok (.layoutR (cmdTb v) (cmdM v))
    else if cmdAl v = 2 then .ok (.layoutC (cmdTb v) (cmdM v))
    else .error .reservedAlign
  else if cmdOp v = 2 then
    if cmdM v = false ∧ cmdTb v = false ∧ cmdAl v = 0 then .ok .resolve
    else .error .resolveOptions
  else .error .reservedOp

/-! ### Text tokens -/

/-- The token at the front of the remaining text `c :: cs`, tested in the order of R173: SP, KR,
GLYPH, SKIP. -/
def decodeToken (p : Params) (c : Byte) (cs : List Byte) : Except FontDefect Instr :=
  if c = Config.spaceByte then .ok .sp
  else if c = p.kreset then .ok .kr
  else
    match Font.resolve p (c :: cs) with
    | .ok (some o) => .ok (.glyph (BitVec.ofNat 17 o))
    | .ok none => .ok (.skip c)
    | .error d => .error d

/-- The token at the front of a text. -/
def decodeText (p : Params) : List Byte → Except DecodeError Instr
  | [] => .error .endOfText
  | c :: cs =>
    match decodeToken p c cs with
    | .ok i => .ok i
    | .error d => .error (.badFont d)

/-! ### Wrapper calls -/

/-- The wrapper whose expansion a sequence of host accesses is (R119). -/
def decodeHost : List HostOp → Except DecodeError Instr
  | [.regWrite k1 addr, .regWrite k2 len, .regWrite k3 x, .regWrite k4 y, .regWrite k5 w,
     .regWrite k6 cmd, .regRead k7] =>
    if [k1, k2, k3, k4, k5, k6, k7] = [2, 3, 4, 5, 6, 0, 7] then
      if cmd = 0x10#32 then .ok (.textLeft addr len x y w)
      else if cmd = 0x12#32 then .ok (.textCentered addr len x y w)
      else .error .noWrapper
    else .error .noWrapper
  | _ => .error .noWrapper

/-! ### The encoders -/

/-- An instruction as it stands outside the engine (R90): a word for CMD, text bytes, or the host
accesses a wrapper stands for. -/
inductive Encoded where
  | cmd (w : Word)
  | text (bs : List Byte)
  | host (ops : List HostOp)
  deriving DecidableEq, Repr

/-- The LAYOUT word with alignment field `al` (R91): zero, op 1, m, tb, al from the top. -/
def layoutWord (al : BitVec 2) (tb m : Bool) : Word :=
  0#24 ++ 1#4 ++ BitVec.ofBool m ++ BitVec.ofBool tb ++ al

/-- The RESOLVE word (R92). -/
def resolveWord : Word := 0x20#32

/-- The register accesses of a wrapper whose command word is `cmd` (R119). -/
def wrapperOps (addr len x y w cmd : Word) : List HostOp :=
  [.regWrite 2 addr, .regWrite 3 len, .regWrite 4 x, .regWrite 5 y, .regWrite 6 w,
   .regWrite 0 cmd, .regRead 7]

/-- The bytes that spell a GLYPH token: the key of the record at `o` (R113). -/
def glyphBytes (p : Params) (o : Offset) : List Byte :=
  match Font.recordAt p o.toNat with
  | some r => r.key
  | none => []

/-- The encoding of an instruction. -/
def encode (p : Params) : Instr → Encoded
  | .layoutL tb m => .cmd (layoutWord 0 tb m)
  | .layoutR tb m => .cmd (layoutWord 1 tb m)
  | .layoutC tb m => .cmd (layoutWord 2 tb m)
  | .resolve => .cmd resolveWord
  | .sp => .text [Config.spaceByte]
  | .kr => .text [p.kreset]
  | .glyph o => .text (glyphBytes p o)
  | .skip b => .text [b]
  | .textLeft addr len x y maxw => .host (wrapperOps addr len x y maxw (layoutWord 0 false false))
  | .textCentered addr len x y w => .host (wrapperOps addr len x y w (layoutWord 2 false false))

/-- The instruction an encoding stands for. -/
def decode (p : Params) : Encoded → Except DecodeError Instr
  | .cmd w => decodeCmd w
  | .text bs => decodeText p bs
  | .host ops => decodeHost ops

/-! ### Glyph records as bytes -/

/-- A glyph as a font author states it: key, height class, columns leftmost first (R95 to R97). -/
structure GlyphSource where
  key : List Byte
  tall : Bool
  columns : List Half
  deriving DecidableEq, Repr

/-- The two bytes of a 16-row column in address order (R68, R97). -/
def columnBytes (order : Col16Order) (c : Half) : List Byte :=
  match order with
  | .lowFirst => [c.extractLsb' 0 8, c.extractLsb' 8 8]
  | .highFirst => [c.extractLsb' 8 8, c.extractLsb' 0 8]

/-- The bitmap bytes of a glyph (R97). -/
def bitmapBytes (order : Col16Order) (g : GlyphSource) : List Byte :=
  if g.tall then g.columns.flatMap (columnBytes order)
  else g.columns.map (fun c => c.extractLsb' 0 8)

/-- The record of a glyph (R95): key length, key, length and flag, bitmap. -/
def encodeRecord (order : Col16Order) (g : GlyphSource) : List Byte :=
  let bm := bitmapBytes order g
  [BitVec.ofNat 8 g.key.length] ++ g.key
    ++ [BitVec.ofBool g.tall ++ BitVec.ofNat 7 bm.length] ++ bm

/-- A glyph ROM: the records in table order and the sentinel (R98). -/
def encodeFont (order : Col16Order) (gs : List GlyphSource) : List Byte :=
  gs.flatMap (encodeRecord order) ++ [0#8]

/-! ### The host's question -/

/-- The `k` bytes of `w`, the least significant first. -/
def bytesOfNat (w : Nat) : Nat → List Byte
  | 0 => []
  | k + 1 => BitVec.ofNat 8 w :: bytesOfNat (w / 256) k

/-- The instruction the decoder reads from the word of an opcode-table row: a row of 32 bits is a
command word, any other row a token of `nbits / 8` text bytes, at most 255 (R115), decoded for the
open parameters of `Config` (log 20). -/
def decodeTableWord (nbits w : Nat) : Option Instr :=
  if nbits = 32 then (decodeCmd (BitVec.ofNat 32 w)).toOption
  else (decodeText Config.params (bytesOfNat w (min (nbits / 8) 255))).toOption

end Sys2Proof
end

