-- ==== Sys2Proof/Machine/State.lean ====
section
/-! DEFINITION. The machine's state as plain data (10_state.md), the reasons a step can stop, and
the state after reset (R47, R270). -/

namespace Sys2Proof.Machine

/-- A legal command word, as CHECK receives it from IDLE (43_layout_command.md R221). -/
inductive Command where
  | layout (al : Align) (tb m : Bool)
  | resolve
  deriving DecidableEq, Repr

/-- The `mode` of an aligned layout (R214). -/
inductive AlignMode where
  | right
  | center
  deriving DecidableEq, Repr

/-- What DONE has to write: the results of a layout, which is `aligned` when it has had a first pass
(R216), or of RESOLVE, the values for RES_OFF and RES_INFO where a record was found (R159). -/
inductive Completion where
  | layout (aligned : Bool)
  | resolve (hit : Option (Half × Half))
  deriving DecidableEq, Repr

/-- The seven phases of the micro-sequencer (R221). A phase carries what the rest of the command still
needs of it and no register of R30 holds: CHECK the command, PASS1 and SHIFT the mode and the
command's own `m` (R215), PASS2 whether there was a first pass, DONE what it writes (log 6). -/
inductive Phase where
  | idle
  | check (c : Command)
  | pass1 (mode : AlignMode) (m : Bool)
  | shift (mode : AlignMode) (m : Bool)
  | pass2 (aligned : Bool)
  | resolveRun
  | done (r : Completion)
  deriving DecidableEq, Repr

/-- A pass is running: tokens are decoded and executed (PASS1, PASS2). -/
def Phase.inPass : Phase → Bool
  | .pass1 _ _ => true
  | .pass2 _ => true
  | .idle => false
  | .check _ => false
  | .shift _ _ => false
  | .resolveRun => false
  | .done _ => false

/-- One pixel event `Pixel(x, y)` at the pixel sink, both signed 32 bit (20_memory.md R66). -/
structure Pixel where
  x : Word
  y : Word
  deriving DecidableEq, Repr

/-- Text memory: (address, byte) pairs, addresses strictly rising, no byte equal to what an
unlisted address reads as (`Config.textDefault`). -/
abbrev Memory := List Host.Cell

/-- Why a step ends in a fault. -/
inductive Fault where
  /-- Raised by the token fetch in a pass, and by RESOLVE_RUN, where the text does not lie inside text
  memory's 65536 bytes. Safe: CHECK makes such a command Illegal (R65), so no run reaches this. -/
  | textRange
  deriving DecidableEq, Repr

/-- Why the model gives no next state. -/
inductive Refusal where
  /-- Raised by `exec` for an instruction that has no meaning yet. Safe. -/
  | notModelled (mnemonic : String)
  /-- Raised by RESOLVE_RUN, by the token fetch and by GLYPH where the rules give no step because the
  font breaks `WF_FONT` (R62, R140, U1 to U4). Safe: the spec gives such a font no meaning. -/
  | malformedFont (d : FontDefect)
  /-- Raised by a command or wrapper issued while another command runs (R41, U15). Safe: no host
  access can fall inside a command. -/
  | busy
  /-- Raised by a text token executed when no pass is running. Safe: only the scan loop of a pass
  decodes tokens (R110, R172). -/
  | noPass
  /-- Raised by a command's run that has not ended within the bound of R291. Safe, and no state
  reaches it: each token consumes at least one byte. -/
  | stepBound
  deriving DecidableEq, Repr

/-- The state. R20's three classes (host registers, working registers, cursor), then the
micro-sequencer's phase (R221), text memory, the parameters every step reads (R46) and the ports. -/
structure State where
  /-- STATUS.ILLEGAL (R34). -/
  illegal : Bool
  /-- STATUS.FOUND (R34). -/
  found : Bool
  /-- TEXT_BASE (R21). -/
  textBase : Half
  /-- TEXT_LEN (R22). -/
  textLen : Half
  /-- X, signed (R23). -/
  x : Half
  /-- Y, signed (R24). -/
  y : Half
  /-- MAXW, signed (R25). -/
  maxw : Half
  /-- WIDTH_USED, signed (R26). -/
  widthUsed : Word
  /-- NATURAL, signed (R27). -/
  natural : Word
  /-- RES_OFF (R28). -/
  resOff : Half
  /-- RES_INFO (R29). -/
  resInfo : Half
  /-- `n`, the pen offset of the current pass (R30). -/
  n : Word
  /-- `t`, the trailing column of the previous glyph (R30). -/
  t : Half
  /-- `pd`, the previous GLYPH token was a digit (R30, R32). -/
  pd : Bool
  /-- `x_eff`, the origin x of the current pass (R30). -/
  xEff : Word
  /-- `mw_eff`, the max width of the current pass (R30). -/
  mwEff : Word
  /-- `meas_eff`, the current pass must not emit pixels (R30). -/
  measEff : Bool
  /-- `tab`, the TABULAR option of the command (R30). -/
  tab : Bool
  /-- `n1`, the result of the first pass of an aligned layout (R30). -/
  n1 : Word
  /-- `o`, the offset of the record matched (R30). -/
  o : Offset
  /-- `g`, the offset of the record whose bitmap is used (R30). -/
  g : Offset
  /-- `dg`, the current GLYPH token is a digit (R30). -/
  dg : Bool
  /-- `esc`, the escape-key buffer: its first byte, ESC_BYTE (R30). -/
  esc0 : Byte
  /-- `esc`, the escape-key buffer: its second byte, the digit (R30). -/
  esc1 : Byte
  /-- `gap`, the inter-glyph gap of the current GLYPH, 0 or 1 pixel (R30). -/
  gap : Bool
  /-- `w`, the column count of record `g` (R30). -/
  w : BitVec 7
  /-- `cur`, the text cursor (R31). -/
  cur : Offset
  /-- The micro-sequencer's phase (R221), with what it carries (log 6). -/
  phase : Phase
  /-- Text memory (R64). -/
  text : Memory
  /-- The ROMs and byte parameters (R46): no step changes them (log 1). -/
  par : Params
  /-- `surf_w`, the sink's width, signed: an input, constant during a command (R35). -/
  surfW : Half
  /-- The pixel events emitted so far, oldest first (R66, R78). -/
  pixels : List Pixel
  /-- The values the host's RegReads have returned so far, oldest first (R36). -/
  reads : List Word
  /-- The host and platform operations still to come, the next one first (log 7). -/
  host : List HostOp
  deriving DecidableEq, Repr

/-- The state after reset of a PFLE built with the parameters `p` whose sink reports `sw`: every
host register 0, the engine idle, nothing pending (R47, R270). The working registers and `cur`,
which R47 leaves unspecified, are 0 (DESIGN CHOICE, log 3). -/
def State.powerOn (p : Params) (sw : Half) : State :=
  { illegal := false, found := false, textBase := 0, textLen := 0, x := 0, y := 0, maxw := 0,
    widthUsed := 0, natural := 0, resOff := 0, resInfo := 0,
    n := 0, t := 0, pd := false, xEff := 0, mwEff := 0, measEff := false, tab := false, n1 := 0,
    o := 0, g := 0, dg := false, esc0 := 0, esc1 := 0, gap := false, w := 0, cur := 0,
    phase := .idle,
    text := [], par := p, surfW := sw, pixels := [], reads := [], host := [] }

/-- The machine right after reset, for the open parameters of `Config`. -/
def State.reset : State := State.powerOn Config.params Config.surfW

end Sys2Proof.Machine
end

