-- ==== Sys2Proof/Machine/Flags.lean ====
section
/-! DEFINITION. The flags and tests: STATUS (10_state.md R34), the digit class (R177), the kerning
test and the gap (R180 to R182), and the two truncation tests (R174, R183). -/

namespace Sys2Proof.Machine

/-- The value of STATUS: ILLEGAL in bit 0, FOUND in bit 1, the rest 0 (R34). -/
def statusWord (s : State) : Word :=
  (BitVec.ofBool s.illegal).setWidth 32 ||| ((BitVec.ofBool s.found).setWidth 32 <<< 1)

/-- `dg` for a record of key length `kl` and first key byte `k0`: one byte, 0x30 to 0x39 (R117,
R177). -/
def isDigit (kl k0 : Byte) : Bool :=
  kl == 1#8 && 0x30 ≤ k0.toNat && k0.toNat ≤ 0x39

/-- A column spread to the row below it, in 17 bits: `v | (v << 1)` (R182). -/
def spread (v : Half) : BitVec 17 :=
  v.setWidth 17 ||| (v.setWidth 17 <<< 1)

/-- The ordinary kerning test between the new glyph's first column `b` and the trailing column `t`
(R182). -/
def columnsTouch (b t : Half) : Bool :=
  spread b &&& spread t != 0

/-- `gap`, from the pen, the trailing column, the new glyph's first column `b` and the digit flags:
none for the first glyph (R180), always beside a digit under TABULAR (R181), else by the kerning
test (R182). -/
def glyphGap (n : Word) (t b : Half) (tab dg pd : Bool) : Bool :=
  if n = 0 then false
  else if tab && (dg || pd) then true
  else columnsTouch b t

/-- SP's truncation test (R174): `mw_eff > 0 and n + SPACE_WIDTH >= mw_eff`, signed. -/
def spaceTruncates (n mw : Word) : Bool :=
  0 < mw.toInt && mw.toInt ≤ (n + Config.spaceWidth).toInt

/-- GLYPH's truncation test (R183): `mw_eff > 0 and n + req > mw_eff`, signed. -/
def glyphTruncates (n req mw : Word) : Bool :=
  0 < mw.toInt && mw.toInt < (n + req).toInt

end Sys2Proof.Machine
end

