-- ==== Sys2Proof/Machine/Operands.lean ====
section
/-! DEFINITION. Operand forms: widening of the host's registers (00_scope.md R8), the text a
command works on (20_memory.md R64, R65), and the pen arithmetic of a GLYPH token (42_layout_tokens.md
R183 to R186). -/

namespace Sys2Proof.Machine

/-- `sext_32` of a signed 16-bit register (R8, R38). -/
def sext32 (v : Half) : Word := v.signExtend 32

/-- `zext_32` of an unsigned 16-bit register (R8, R38). -/
def zext32 (v : Half) : Word := v.setWidth 32

/-- `floor2`: the arithmetic right shift by one, the floor of half for every sign (R8). -/
def floor2 (v : Word) : Word := v.sshiftRight 1

/-- The byte of text memory at address `a`; an unlisted one reads as `Config.textDefault`. -/
def Memory.read : Memory → Nat → Byte
  | [], _ => Config.textDefault
  | (a', b) :: m, a => if a' = a then b else Memory.read m a

/-- The `len` bytes of text memory from address `base` upwards. -/
def textBytes (m : Memory) (base len : Nat) : List Byte :=
  (List.range len).map fun i => Memory.read m (base + i)

/-- R65: `TEXT_BASE + TEXT_LEN` reaches past the top of text memory. -/
def textWraps (s : State) : Bool :=
  65536 < s.textBase.toNat + s.textLen.toNat

/-- `T[0 .. TEXT_LEN - 1]`, the text of the command (R9, R64). -/
def commandText (s : State) : List Byte :=
  textBytes s.text s.textBase.toNat s.textLen.toNat

/-- `T[cur .. TEXT_LEN - 1]`, what the pass has not consumed yet (R31, R173). -/
def remainingText (s : State) : List Byte :=
  textBytes s.text (s.textBase.toNat + s.cur.toNat) (s.textLen.toNat - s.cur.toNat)

/-- `gap` in pixels, 0 or 1 (R30). -/
def gapWidth (gap : Bool) : Word := if gap then 1 else 0

/-- `req`, the width a GLYPH token needs: the tabular cell or the columns, and the gap (R183).
`cell` is `tab = 1 and dg = 1`. -/
def glyphReq (cell : Bool) (w : BitVec 7) (gap : Bool) : Word :=
  (if cell then Config.tnumWidth else w.setWidth 32) + gapWidth gap

/-- The leading padding of a glyph: `floor2(5 - w)` in a tabular cell (R184). -/
def leadPad (cell : Bool) (w : BitVec 7) : Word :=
  if cell then floor2 (Config.tnumWidth - w.setWidth 32) else 0

/-- The trailing padding of a glyph: `floor2(6 - w)` in a tabular cell (R186). -/
def trailPad (cell : Bool) (w : BitVec 7) : Word :=
  if cell then floor2 (Config.tnumWidth + 1 - w.setWidth 32) else 0

/-- The pen where the glyph is drawn: after the gap and the leading padding (R184). -/
def penAtDraw (n : Word) (cell : Bool) (w : BitVec 7) (gap : Bool) : Word :=
  n + gapWidth gap + leadPad cell w

/-- The pen after the glyph: the columns and the trailing padding added (R186). -/
def penAfter (n : Word) (cell : Bool) (w : BitVec 7) (gap : Bool) : Word :=
  penAtDraw n cell w gap + w.setWidth 32 + trailPad cell w

/-- The shift of the origin for slack `d`: all of it for RIGHT, its floored half for CENTER (R214). -/
def alignShift (mode : AlignMode) (d : Word) : Word :=
  match mode with
  | .right => d
  | .center => floor2 d

/-- The pixel events of one column at `xa`, rows ascending: row `r` at `y - 4 + r` (R185). -/
def columnPixels (xa y : Word) (col : Half) : List Pixel :=
  (List.range 16).filterMap fun r =>
    if col.getLsbD r then some { x := xa, y := y - 4 + BitVec.ofNat 32 r } else none

/-- Is the column at `xa` on the surface: `0 <= xa < surf_w`, signed (R185, R67)? -/
def onSurface (surfW xa : Word) : Bool :=
  0 ≤ xa.toInt && xa.toInt < surfW.toInt

/-- The pixel events of a glyph's columns from `xa` rightwards; a column off the surface emits none
(R185, R78). -/
def glyphPixels (surfW y : Word) : Word → List Half → List Pixel
  | _, [] => []
  | xa, col :: cols =>
    (if onSurface surfW xa then columnPixels xa y col else []) ++ glyphPixels surfW y (xa + 1) cols

end Sys2Proof.Machine
end

