-- ==== Sys2Proof/Machine/Ops.lean ====
section
/-! DEFINITION. The named operations over text memory, the register file and the micro-sequencer:
placing text, RegRead and RegWrite (10_state.md R36 to R40), the Illegal fault (60_exceptions.md
R246), and the phases of the micro-sequencer (43_layout_command.md R221). -/

namespace Sys2Proof.Machine

/-! ### Text memory -/

/-- Text memory with `b` at address `a`, in canonical form again. -/
def Memory.write : Memory → Nat → Byte → Memory
  | [], a, b => if b = Config.textDefault then [] else [(a, b)]
  | (a', b') :: m, a, b =>
    if a < a' then
      if b = Config.textDefault then (a', b') :: m else (a, b) :: (a', b') :: m
    else if a = a' then
      if b = Config.textDefault then m else (a, b) :: m
    else (a', b') :: Memory.write m a b

/-- Every address listed in `m` is below 65536 (R60) and at least `lo`, addresses rise strictly and
no listed byte is the default. -/
def Memory.wfFrom : Nat → Memory → Bool
  | _, [] => true
  | lo, (a, b) :: m =>
    lo ≤ a && a < 65536 && b != Config.textDefault && Memory.wfFrom (a + 1) m

/-- The canonical form of text memory. -/
def Memory.wf (m : Memory) : Bool := Memory.wfFrom 0 m

/-- The bytes `bs` written at address `a` and upwards. -/
def Memory.writeBytes : Memory → Nat → List Byte → Memory
  | m, _, [] => m
  | m, a, b :: bs => Memory.writeBytes (Memory.write m a b) (a + 1) bs

/-- The platform places one byte of text (R64). -/
def State.placeText (s : State) (a : Half) (b : Byte) : State :=
  { s with text := Memory.write s.text a.toNat b }

/-- The pixel sink reports the width `v` from now on (R35). -/
def State.setSurfW (s : State) (v : Half) : State :=
  { s with surfW := v }

/-! ### The register file -/

/-- The value RegRead(k) returns (R33, R37, R38); register numbers above 10 read 0 (R40, log 10). -/
def regValue (s : State) (k : Nat) : Word :=
  match k with
  | 0 => 0
  | 1 => statusWord s
  | 2 => zext32 s.textBase
  | 3 => zext32 s.textLen
  | 4 => sext32 s.x
  | 5 => sext32 s.y
  | 6 => sext32 s.maxw
  | 7 => s.widthUsed
  | 8 => s.natural
  | 9 => zext32 s.resOff
  | 10 => zext32 s.resInfo
  | _ => 0

/-- RegRead(k): the value goes to the host, nothing else changes (R36). -/
def State.regRead (s : State) (k : Nat) : State :=
  { s with reads := s.reads ++ [regValue s k] }

/-- RegWrite(k, v) to a register other than CMD: the five operand registers keep `v[15:0]` (R38);
read-only registers and numbers above 10 ignore it (R39, R40). CMD itself stores nothing (R33): a
write to it runs a command, which `hostAccess` starts. -/
def State.regWrite (s : State) (k : Nat) (v : Word) : State :=
  match k with
  | 2 => { s with textBase := v.setWidth 16 }
  | 3 => { s with textLen := v.setWidth 16 }
  | 4 => { s with x := v.setWidth 16 }
  | 5 => { s with y := v.setWidth 16 }
  | 6 => { s with maxw := v.setWidth 16 }
  | _ => s

/-- The five operand writes of a wrapper (R119). -/
def State.writeOperands (s : State) (base len x y maxw : Word) : State :=
  ((((s.regWrite 2 base).regWrite 3 len).regWrite 4 x).regWrite 5 y).regWrite 6 maxw

/-! ### The Illegal fault -/

/-- `raise Illegal`: the one exception PFLE has, taken by setting the sticky STATUS.ILLEGAL and
doing nothing else; control goes to, or stays in, IDLE (R221, R246, R250). -/
def State.raiseIllegal (s : State) : State :=
  { s with illegal := true, phase := .idle }

/-! ### The micro-sequencer -/

/-- IDLE hands a legal command to CHECK (R221). -/
def State.startCommand (s : State) (c : Command) : State :=
  { s with phase := .check c }

/-- Start of a pass (R171, R30): `n`, `t`, `pd`, `cur` cleared, the pass's origin, bound and
measuring bit set. -/
def State.startPass (s : State) (ph : Phase) (xEff mwEff : Word) (meas : Bool) : State :=
  { s with n := 0, t := 0, pd := false, cur := 0, xEff := xEff, mwEff := mwEff, measEff := meas,
           phase := ph }

/-- A layout's first pass starts: TABULAR latched, origin X, bound MAXW (R30, R211, R214). -/
def State.startLayout (s : State) (ph : Phase) (tb meas : Bool) : State :=
  { s with tab := tb }.startPass ph (sext32 s.x) (sext32 s.maxw) meas

/-- CHECK (R221, R233): Illegal for a text that wraps; else on to RESOLVE_RUN, or to the first pass,
which is PASS2 for LEFT, with the command's own `m` (R211), and PASS1 for RIGHT and CENTER,
measuring (R214). -/
def State.checkCommand (s : State) (c : Command) : State :=
  if textWraps s then s.raiseIllegal
  else
    match c with
    | .layout .left tb m => s.startLayout (.pass2 false) tb m
    | .layout .right tb m => s.startLayout (.pass1 .right m) tb true
    | .layout .center tb m => s.startLayout (.pass1 .center m) tb true
    | .resolve => { s with phase := .resolveRun }

/-- The pass ends, by `stop(n)` or at the end of the text: pass 1 goes to SHIFT, pass 2 to DONE
(R172, R193, R221, R250). -/
def State.endPass (s : State) : State :=
  match s.phase with
  | .pass1 mode m => { s with phase := .shift mode m }
  | .pass2 aligned => { s with phase := .done (.layout aligned) }
  | .idle => s
  | .check _ => s
  | .shift _ _ => s
  | .resolveRun => s
  | .done _ => s

/-- SHIFT (R214, R221): `n1` is kept, pass 2 starts at the shifted origin with `mw_eff = n1` and the
command's own `m` (R215). -/
def State.startPass2 (s : State) (mode : AlignMode) (m : Bool) : State :=
  ({ s with n1 := s.n }).startPass (.pass2 true)
    (sext32 s.x + alignShift mode (sext32 s.maxw - s.n)) s.n m

/-- The end of RESOLVE_RUN (R221): the resolver's result goes to DONE, and `o` is the record matched,
if there is one (R30, R150). -/
def State.endResolve (s : State) (r : Option (Nat × Half)) : State :=
  { s with o := (r.map fun h => BitVec.ofNat 17 h.1).getD s.o,
           phase := .done (.resolve (r.map fun h => (BitVec.ofNat 16 h.1, h.2))) }

/-- DONE of a layout (R216): WIDTH_USED is the last pass's value, NATURAL the first pass's. -/
def State.finishLayout (s : State) (aligned : Bool) : State :=
  { s with widthUsed := s.n, natural := if aligned then s.n1 else s.n, phase := .idle }

/-- DONE of RESOLVE (R159). -/
def State.finishResolve (s : State) (hit : Option (Half × Half)) : State :=
  { s with found := hit.isSome, resOff := (hit.map (·.1)).getD 0xFFFF,
           resInfo := (hit.map (·.2)).getD 0, phase := .idle }

/-- DONE (R43, R221): the result registers are written together and the CMD write completes. -/
def State.finish (s : State) (r : Completion) : State :=
  match r with
  | .layout aligned => s.finishLayout aligned
  | .resolve hit => s.finishResolve hit

/-- The cursor moves on by `k` bytes (R31). -/
def State.advance (s : State) (k : Offset) : State :=
  { s with cur := s.cur + k }

/-- Pixel events go to the sink, unless the pass only measures (R185, R218). -/
def State.emit (s : State) (ps : List Pixel) : State :=
  { s with pixels := s.pixels ++ (if s.measEff then [] else ps) }

end Sys2Proof.Machine
end

