-- ==== Sys2Proof/Machine/Tokens.lean ====
section
/-! DEFINITION. The four text tokens (42_layout_tokens.md R174 to R189), and the fetch of the token
at the cursor (R172, R173). A token is executed inside a pass; `stop(n)` ends the pass with the pen
as it stands (`State.endPass`). -/

namespace Sys2Proof.Machine

open Host (Outcome)

/-! ### SP, KR, SKIP -/

/-- SP inside a pass (R174): truncate, or advance the pen by SPACE_WIDTH and clear `t`. -/
def spaceEffect (s : State) : State :=
  if spaceTruncates s.n s.mwEff then s.endPass
  else { s with n := s.n + Config.spaceWidth, t := 0 }.advance 1

/-- SP (R174). -/
def execSp (s : State) : Outcome State Fault Refusal :=
  if s.phase.inPass then .next (spaceEffect s) else .refused .noPass

/-- KR inside a pass (R175): `t` is cleared, the pen stays. -/
def kernResetEffect (s : State) : State :=
  { s with t := 0 }.advance 1

/-- KR (R175). -/
def execKr (s : State) : Outcome State Fault Refusal :=
  if s.phase.inPass then .next (kernResetEffect s) else .refused .noPass

/-- SKIP (R188): one byte is passed over, whatever byte it is. -/
def execSkip (_b : Byte) (s : State) : Outcome State Fault Refusal :=
  if s.phase.inPass then .next (s.advance 1) else .refused .noPass

/-! ### GLYPH -/

/-- What GLYPH reads from the font (R177 to R180, R185): the original key's length and first byte,
the digit flag, the record used, and that record's columns. -/
structure GlyphData where
  kl : Byte
  k0 : Byte
  dg : Bool
  g : Nat
  w : BitVec 7
  columns : List Half
  deriving DecidableEq, Repr

/-- `tab = 1 and dg = 1`: the glyph is drawn in a tabular cell (R178, R183 to R186). -/
def inCell (s : State) (d : GlyphData) : Bool := s.tab && d.dg

/-- Step 2 (R178): under TABULAR a digit uses the record found for the escape key
`[ESC_BYTE, k0]`, if there is one. `cell` is `tab = 1 and dg = 1`. -/
def glyphUsed (p : Params) (cell : Bool) (k0 : Byte) (o : Nat) : Except FontDefect Nat :=
  if cell then do
    let r ← Font.resolve p [p.esc, k0]
    match r with
    | some o2 => pure o2
    | none => pure o
  else pure o

/-- The columns of the record used; a font without them has no meaning (R139, R140 (e)). -/
def glyphColumns (p : Params) (g : Nat) : Except FontDefect (BitVec 7 × List Half) := do
  let tall ← Font.h16 p g
  let bl ← Font.bitmapLen p g
  let w ← Font.cols p g
  if w = 0 then .error .noColumns
  else if tall && bl.getLsbD 0 then .error .oddBitmap
  else do
    let cs ← Font.columnsFrom p g 0 w.toNat
    pure (w, cs)

/-- Everything GLYPH(o) reads from the font. -/
def glyphData (p : Params) (tab : Bool) (o : Nat) : Except FontDefect GlyphData := do
  let kl ← Font.keyLen p o
  if kl = 0 then .error .sentinelGlyph
  else do
    let k0 ← Font.keyByte p o 0
    let dg := isDigit kl k0
    let g ← glyphUsed p (tab && dg) k0 o
    let wc ← glyphColumns p g
    pure { kl := kl, k0 := k0, dg := dg, g := g, w := wc.1, columns := wc.2 }

/-- The gap of the glyph in `s` (R180 to R182); its first column is `b`. -/
def gapOf (s : State) (d : GlyphData) : Bool :=
  glyphGap s.n s.t (d.columns.headD 0) s.tab d.dg s.pd

/-- The working registers GLYPH sets before its truncation test: `o`, `g`, `dg`, `w`, `gap`, `esc`
(under TABULAR for a digit) and the cursor, by the original key's length (R177 to R182). -/
def glyphScratch (s : State) (o : Offset) (d : GlyphData) : State :=
  { s with o := o, g := BitVec.ofNat 17 d.g, dg := d.dg, w := d.w, gap := gapOf s d,
           esc0 := if inCell s d then s.par.esc else s.esc0,
           esc1 := if inCell s d then d.k0 else s.esc1 }.advance (d.kl.setWidth 17)

/-- The pixel events of the glyph drawn in `s` (R185). -/
def glyphEvents (s : State) (d : GlyphData) : List Pixel :=
  glyphPixels (sext32 s.surfW) (sext32 s.y)
    (s.xEff + penAtDraw s.n (inCell s d) d.w (gapOf s d)) d.columns

/-- Steps 5 to 9 (R183 to R187): truncate, or draw, advance the pen and record `t` and `pd`. -/
def glyphEffect (s : State) (o : Offset) (d : GlyphData) : State :=
  let s1 := glyphScratch s o d
  if glyphTruncates s.n (glyphReq (inCell s d) d.w (gapOf s d)) s.mwEff then s1.endPass
  else
    { s1 with n := penAfter s.n (inCell s d) d.w (gapOf s d), t := d.columns.getLastD 0,
              pd := d.dg }.emit (glyphEvents s d)

/-- GLYPH(o) (R189). -/
def execGlyph (o : Offset) (s : State) : Outcome State Fault Refusal :=
  if s.phase.inPass then
    match glyphData s.par s.tab o.toNat with
    | .ok d => .next (glyphEffect s o d)
    | .error d => .refused (.malformedFont d)
  else .refused .noPass

/-! ### Fetch -/

/-- The token at the cursor of a running pass (R172, R173); none at the end of the text and outside
a pass. A text that does not lie inside text memory does not exist (R65). -/
def fetch (s : State) : Outcome (Option Instr) Fault Refusal :=
  if s.phase.inPass then
    if textWraps s then .fault .textRange
    else
      match remainingText s with
      | [] => .next none
      | c :: cs =>
        match decodeToken s.par c cs with
        | .ok i => .next (some i)
        | .error d => .refused (.malformedFont d)
  else .next none

/-- The meaning of a token fetched in a pass, the same one its arm of `exec` calls. A command is no
token. -/
def execToken (i : Instr) (s : State) : Outcome State Fault Refusal :=
  match i with
  | .sp => execSp s
  | .kr => execKr s
  | .glyph o => execGlyph o s
  | .skip b => execSkip b s
  | .layoutL _ _ => .refused .busy
  | .layoutR _ _ => .refused .busy
  | .layoutC _ _ => .refused .busy
  | .resolve => .refused .busy
  | .textLeft _ _ _ _ _ => .refused .busy
  | .textCentered _ _ _ _ _ => .refused .busy

end Sys2Proof.Machine
end

