-- ==== Sys2Proof/Machine/Sequencer.lean ====
section
/-! DEFINITION. The micro-sequencer (43_layout_command.md R221): its phases, one token or one phase
change a tick, and a command's run from CHECK to completion (10_state.md R41). -/

namespace Sys2Proof.Machine

open Host (Outcome)

/-! ### RESOLVE_RUN (41_resolver.md R159) -/

/-- RES_INFO for the record at `o`: `h16(o) ++ bitmap_len(o) ++ key_len(o)` (R29, R159). -/
def resolveInfo (p : Params) (o : Nat) : Except FontDefect Half := do
  let tall ← Font.h16 p o
  let bl ← Font.bitmapLen p o
  let kl ← Font.keyLen p o
  pure (BitVec.ofBool tall ++ bl ++ kl)

/-- RESOLVE's result for the whole text of the command: an offset and its RES_INFO, or none. -/
def resolveText (s : State) : Except FontDefect (Option (Nat × Half)) := do
  let r ← Font.resolve s.par (commandText s)
  match r with
  | none => pure none
  | some o =>
    let info ← resolveInfo s.par o
    pure (some (o, info))

/-- RESOLVE_RUN: the resolver on the whole text, on to DONE (R221). -/
def resolveRun (s : State) : Outcome State Fault Refusal :=
  if textWraps s then .fault .textRange
  else
    match resolveText s with
    | .ok r => .next (s.endResolve r)
    | .error d => .refused (.malformedFont d)

/-! ### Ticks -/

/-- What the micro-sequencer does where no token is to be executed (R221). -/
def micro (s : State) : Outcome State Fault Refusal :=
  match s.phase with
  | .idle => .next s
  | .check c => .next (s.checkCommand c)
  | .pass1 _ _ => .next s.endPass
  | .shift mode m => .next (s.startPass2 mode m)
  | .pass2 _ => .next s.endPass
  | .resolveRun => resolveRun s
  | .done r => .next (s.finish r)

/-- One tick inside a command: the token at the cursor, or the micro-sequencer's own step. -/
def tick (s : State) : Outcome State Fault Refusal :=
  match fetch s with
  | .next (some i) => execToken i s
  | .next none => micro s
  | .fault f => .fault f
  | .refused r => .refused r

/-! ### A command's run -/

/-- Ticks until the engine is idle again (R41). -/
def runCommand : Nat → State → Outcome State Fault Refusal
  | 0, s => if s.phase = .idle then .next s else .refused .stepBound
  | k + 1, s =>
    if s.phase = .idle then .next s
    else
      match tick s with
      | .next s' => runCommand k s'
      | .fault f => .fault f
      | .refused r => .refused r

/-- The bound of R291 on a command's ticks: at most TEXT_LEN tokens in each of two passes, the end of
each pass, CHECK, SHIFT and DONE. -/
def commandFuel (s : State) : Nat := 2 * s.textLen.toNat + 5

/-- A command from the write to CMD to its completion, or its Illegal (R41, R221). -/
def command (c : Command) (s : State) : Outcome State Fault Refusal :=
  if s.phase = .idle then runCommand (commandFuel s) (s.startCommand c)
  else .refused .busy

end Sys2Proof.Machine
end

