-- ==== Sys2Proof/Machine/Layout.lean ====
section
/-! DEFINITION. The LAYOUT commands (43_layout_command.md R210 to R216, R233), each the run of the
micro-sequencer that its command word starts. -/

namespace Sys2Proof.Machine

open Host (Outcome)

/-- LAYOUT.L (R211). -/
def execLayoutL (tb m : Bool) (s : State) : Outcome State Fault Refusal :=
  command (.layout .left tb m) s

/-- LAYOUT.R (R212). -/
def execLayoutR (tb m : Bool) (s : State) : Outcome State Fault Refusal :=
  command (.layout .right tb m) s

/-- LAYOUT.C (R213). -/
def execLayoutC (tb m : Bool) (s : State) : Outcome State Fault Refusal :=
  command (.layout .center tb m) s

end Sys2Proof.Machine
end

