-- ==== Sys2Proof/Machine/Resolve.lean ====
section
/-! DEFINITION. The RESOLVE command (41_resolver.md R159): the run CHECK, RESOLVE_RUN, DONE of the
micro-sequencer (43_layout_command.md R221). -/

namespace Sys2Proof.Machine

open Host (Outcome)

/-- RESOLVE (R159). -/
def execResolve (s : State) : Outcome State Fault Refusal :=
  command .resolve s

end Sys2Proof.Machine
end

