-- ==== Sys2Proof/Machine/Wrappers.lean ====
section
/-! DEFINITION. The host's convenience wrappers (30_encoding.md R119, 43_layout_command.md R219,
R220): five register writes, one LAYOUT command without options, one read of WIDTH_USED. -/

namespace Sys2Proof.Machine

open Host (Outcome)

/-- A wrapper around LAYOUT with alignment `al`: the host's accesses of R119 in their order. -/
def wrapper (al : Align) (base len x y w : Word) (s : State) : Outcome State Fault Refusal :=
  if s.phase = .idle then
    match command (.layout al false false) (s.writeOperands base len x y w) with
    | .next s' => .next (s'.regRead 7)
    | .fault f => .fault f
    | .refused r => .refused r
  else .refused .busy

/-- TEXT_LEFT addr, len, x, y, maxw (R219). -/
def execTextLeft (addr len x y maxw : Word) (s : State) : Outcome State Fault Refusal :=
  wrapper .left addr len x y maxw s

/-- TEXT_CENTERED addr, len, x, y, w (R220). -/
def execTextCentered (addr len x y w : Word) (s : State) : Outcome State Fault Refusal :=
  wrapper .center addr len x y w s

end Sys2Proof.Machine
end

