-- ==== Sys2Proof/Machine/Dispatch.lean ====
section
/-! DEFINITION. One arm per instruction: its meaning. -/

namespace Sys2Proof.Machine

-- The instruction `i` executed in the state `s`.
def exec (i : Instr) (s : State) : Host.Outcome State Fault Refusal :=
  match i with
  | .layoutL tb m => Sys2Proof.Machine.execLayoutL tb m s
  | .layoutR tb m => Sys2Proof.Machine.execLayoutR tb m s
  | .layoutC tb m => Sys2Proof.Machine.execLayoutC tb m s
  | .resolve => Sys2Proof.Machine.execResolve s
  | .sp => Sys2Proof.Machine.execSp s
  | .kr => Sys2Proof.Machine.execKr s
  | .glyph o => Sys2Proof.Machine.execGlyph o s
  | .skip b => Sys2Proof.Machine.execSkip b s
  | .textLeft addr len x y maxw => Sys2Proof.Machine.execTextLeft addr len x y maxw s
  | .textCentered addr len x y w => Sys2Proof.Machine.execTextCentered addr len x y w s

end Sys2Proof.Machine
end

