-- ==== Sys2Proof/Machine/HostAccess.lean ====
section
/-! DEFINITION. The host interface (10_state.md R36 to R41): what the next host or platform operation
does while the engine is idle, and where an instruction is put so that the next step runs it. -/

namespace Sys2Proof.Machine

/-- What a host operation comes to: a state at once, or an instruction to execute in a state. -/
inductive Access where
  | finished (s : State)
  | run (i : Instr) (s : State)
  deriving DecidableEq, Repr

/-- A write of `v` to CMD: a legal word runs its command, any other raises Illegal (R33, R41, R94,
R246). -/
def writeCmd (s : State) (v : Word) : Access :=
  match decodeCmd v with
  | .ok i => .run i s
  | .error _ => .finished s.raiseIllegal

/-- One host or platform operation (R36, R41). -/
def accessOf (s : State) : HostOp → Access
  | .regWrite k v => if k = 0 then writeCmd s v else .finished (s.regWrite k v)
  | .regRead k => .finished (s.regRead k)
  | .placeText a b => .finished (s.placeText a b)
  | .setSurfW v => .finished (s.setSurfW v)
  | .textLeft addr len x y maxw => .run (.textLeft addr len x y maxw) s
  | .textCentered addr len x y w => .run (.textCentered addr len x y w) s

/-- The next host operation, taken off the queue; with none the engine waits (R221, R270). -/
def hostAccess (s : State) : Access :=
  match s.host with
  | [] => .finished s
  | op :: rest => accessOf { s with host := rest } op

/-- `s` with a token of bytes `bs` as the rest of a running pass's text: at the cursor, or at text
address 0 with cursor 0 where it does not fit there. -/
def placeToken (s : State) (bs : List Byte) : State :=
  let ph := if s.phase.inPass then s.phase else .pass2 false
  let a := s.textBase.toNat + s.cur.toNat
  if a + bs.length ≤ 65536 ∧ s.cur.toNat + bs.length ≤ 65535 then
    { s with phase := ph, text := Memory.writeBytes s.text a bs,
             textLen := BitVec.ofNat 16 (s.cur.toNat + bs.length) }
  else
    { s with phase := ph, text := Memory.writeBytes s.text 0 bs, textBase := 0, cur := 0,
             textLen := BitVec.ofNat 16 bs.length }

/-- `s` with the command word `v` as the next host operation, the engine idle. -/
def placeCommand (s : State) (v : Word) : State :=
  { s with phase := .idle, host := .regWrite 0 v :: s.host }

/-- `s` with an opcode-table row's word where the next step fetches it (log 20). -/
def placeTableWord (s : State) (nbits w : Nat) : State :=
  if nbits = 32 then placeCommand s (BitVec.ofNat 32 w)
  else placeToken s (bytesOfNat w (min (nbits / 8) 255))

end Sys2Proof.Machine
end

