-- ==== Sys2Proof/Machine/Step.lean ====
section
/-! DEFINITION. One step. While the engine is idle a step is the next host operation, a command
running to completion inside it (10_state.md R41); in a state that stands inside a command a step is
one tick of the micro-sequencer (43_layout_command.md R221). -/

namespace Sys2Proof.Machine

/-- One step of the machine. -/
def step (s : State) : Host.Outcome State Fault Refusal :=
  match s.phase with
  | .idle =>
    match hostAccess s with
    | .finished s' => .next s'
    | .run i s' => exec i s'
  | .check _ | .pass1 _ _ | .shift _ _ | .pass2 _ | .resolveRun | .done _ =>
    match fetch s with
    | .next (some i) => exec i s
    | .next none => micro s
    | .fault f => .fault f
    | .refused r => .refused r

/-- `s` with the instruction of an opcode-table row's word where `step` fetches its next one: a
command word as the next host write to CMD, a token at the cursor of a running pass (log 20). -/
def State.withFetchWord (s : State) (nbits w : Nat) : State :=
  placeTableWord s nbits w

end Sys2Proof.Machine
end

