-- ==== Sys2Proof/WellFormed.lean ====
section
/-! DEFINITION. What is well formed: a font and its parameters (`WF_FONT`, 40_font_table.md R140,
and U6), and an instruction, which for a text token means that the text can spell it. -/

namespace Sys2Proof

open Font (Record)

/-- FONT_BYTES is 1 to 65536 (R6, D17). -/
def fontSizeOk (p : Params) : Bool :=
  1 ≤ p.font.length && p.font.length ≤ 65536

/-- The entry the index must hold for bucket `i` (R140 (c)). -/
def indexEntryFor (rs : List Record) (i : BitVec 6) : Half :=
  match rs.find? (fun r => Font.bucket (Font.firstByte r) == i) with
  | none => 0xFFFF#16
  | some r => BitVec.ofNat 16 r.off

/-- R140 (b): the first record of every bucket starts below 32768, so that its index entry is not
negative. -/
def firstOffsetsOk (rs : List Record) : Bool :=
  rs.all fun r =>
    match rs.find? (fun r' => Font.bucket (Font.firstByte r') == Font.bucket (Font.firstByte r)) with
    | none => true
    | some r' => r'.off < 32768

/-- R140 (c): every index entry is the one its bucket must have. -/
def indexOk (p : Params) (rs : List Record) : Bool :=
  (List.finRange 64).all fun i => p.index.get i == indexEntryFor rs (BitVec.ofFin i)

/-- R140 (d): the records of one bucket are contiguous. -/
def contiguousOk : List Byte → Bool
  | [] => true
  | b :: bs =>
    (bs.dropWhile (fun c => Font.bucket c == Font.bucket b)).all
      (fun c => Font.bucket c != Font.bucket b)
    && contiguousOk bs

/-- R140 (d): within one bucket the first key byte never decreases. -/
def ascendingOk : List Byte → Bool
  | [] => true
  | b :: bs =>
    bs.all (fun c => Font.bucket c != Font.bucket b || b.toNat ≤ c.toNat) && ascendingOk bs

/-- R140 (e): the record has a column, and a 16-row record has whole columns. -/
def shapeOk (r : Record) : Bool :=
  if r.tall then r.bitmap.length != 0 && r.bitmap.length % 2 == 0 else r.bitmap.length != 0

/-- Clauses (b) to (e) of R140 for the record sequence `rs`. -/
def recordsOk (p : Params) (rs : List Record) : Bool :=
  firstOffsetsOk rs && indexOk p rs && contiguousOk (rs.map Font.firstByte)
    && ascendingOk (rs.map Font.firstByte) && rs.all shapeOk

/-- `WF_FONT` (R140): size, clause (a) (the record sequence reaches a sentinel inside the ROM) and
clauses (b) to (e). -/
def fontOk (p : Params) : Bool :=
  fontSizeOk p &&
    match Font.records p with
    | none => false
    | some rs => recordsOk p rs

/-- What every claim takes as its premise: `WF_FONT`, and KRESET_BYTE is not the space byte (R112,
U6). -/
def Params.wf (p : Params) : Bool :=
  fontOk p && p.kreset != Config.spaceByte

/-- Can the text spell the GLYPH token of record `r`? Its key must not begin with a byte that is
dispatched before the font is consulted (R173, R283), and no record earlier in the table may have
a key that is a prefix of its key (R156, R281). -/
def spellable (p : Params) (rs : List Record) (r : Record) : Bool :=
  Font.firstByte r != Config.spaceByte && Font.firstByte r != p.kreset
    && (rs.takeWhile (fun r' => r'.off != r.off)).all (fun r' => !r'.key.isPrefixOf r.key)

/-- A well-formed instruction: every command and wrapper is one; KR needs a KRESET_BYTE of its own;
GLYPH needs a record the text can spell; SKIP needs a byte that no other token claims (R110). -/
def Instr.wf (p : Params) : Instr → Bool
  | .layoutL _ _ => true
  | .layoutR _ _ => true
  | .layoutC _ _ => true
  | .resolve => true
  | .sp => true
  | .kr => p.kreset != Config.spaceByte
  | .glyph o =>
    match Font.records p with
    | none => false
    | some rs =>
      match rs.find? (fun r => r.off == o.toNat) with
      | none => false
      | some r => spellable p rs r
  | .skip b =>
    b != Config.spaceByte && b != p.kreset &&
      match Font.records p with
      | none => false
      | some rs => rs.all (fun r => r.key != [b])
  | .textLeft _ _ _ _ _ => true
  | .textCentered _ _ _ _ _ => true

end Sys2Proof
end

