-- ==== Sys2Proof/Safety.lean ====
section
/-! DEFINITION. The terms claims use: the state an outcome gives, the invariant of every step, what a
program must keep to, and a reference layout in plain integers and table order, written from the
rules and not from the engine: keys are found by walking the whole record list (41_resolver.md R157),
columns are those of the record format (30_encoding.md R97), the gap is asked of rows (R190) and pens
are integers (00_scope.md R10). -/

namespace Sys2Proof.Machine

open Host (Outcome)

/-- The next state, if the outcome is one. -/
def nextState? : Outcome State Fault Refusal → Option State
  | .next s => some s
  | .fault _ => none
  | .refused _ => none

/-- The reason of a refusal, if the outcome is one. -/
def refusal? : Outcome State Fault Refusal → Option Refusal
  | .next _ => none
  | .fault _ => none
  | .refused r => some r

/-- Where the end of a pass leads (R221). -/
def afterPass : Phase → Phase
  | .pass1 mode m => .shift mode m
  | .pass2 aligned => .done (.layout aligned)
  | .idle => .idle
  | .check c => .check c
  | .shift mode m => .shift mode m
  | .resolveRun => .resolveRun
  | .done r => .done r

/-- The phases that follow CHECK, where the text is known to lie in text memory (R221, R233). -/
def textChecked : Phase → Bool
  | .idle => false
  | .check _ => false
  | .pass1 _ _ => true
  | .shift _ _ => true
  | .pass2 _ => true
  | .resolveRun => true
  | .done _ => true

/-- The phases of a layout from its first pass on, where the pen and the cursor hold a pass's values
(R221). -/
def scanning : Phase → Bool
  | .idle => false
  | .check _ => false
  | .pass1 _ _ => true
  | .shift _ _ => true
  | .pass2 _ => true
  | .resolveRun => false
  | .done (.layout _) => true
  | .done (.resolve _) => false

/-- The LAYOUT instruction with alignment `al` (R92). -/
def layoutInstr (al : Align) (tb m : Bool) : Instr :=
  match al with
  | .left => .layoutL tb m
  | .right => .layoutR tb m
  | .center => .layoutC tb m

/-- The instruction of a command (R92). -/
def commandInstr : Command → Instr
  | .layout al tb m => layoutInstr al tb m
  | .resolve => .resolve

/-- The instructions the host issues: the commands and the wrappers (R92, R119). -/
def isCommand : Instr → Bool
  | .layoutL _ _ => true
  | .layoutR _ _ => true
  | .layoutC _ _ => true
  | .resolve => true
  | .textLeft _ _ _ _ _ => true
  | .textCentered _ _ _ _ _ => true
  | .sp => false
  | .kr => false
  | .glyph _ => false
  | .skip _ => false

/-- Two idle states with the same operands of RESOLVE: text registers, text memory and parameters
(R159). Everything else may differ. -/
abbrev sameText (s s' : State) : Prop :=
  s.phase = .idle ∧ s'.phase = .idle ∧ s'.textBase = s.textBase ∧ s'.textLen = s.textLen ∧
    (∀ a, Memory.read s'.text a = Memory.read s.text a) ∧ s'.par = s.par

/-- Two idle states with the same operands of a LAYOUT command: those of `sameText`, X, Y, MAXW and
the sink's width (R210). Everything else may differ. -/
abbrev sameOperands (s s' : State) : Prop :=
  sameText s s' ∧ s'.x = s.x ∧ s'.y = s.y ∧ s'.maxw = s.maxw ∧ s'.surfW = s.surfW

/-- What holds inside a command: after CHECK the text lies inside text memory (R65); in a layout the
cursor is inside the text (R31), the pen is neither negative nor above 128 pixels a consumed byte
(R191, R232), nor above a positive width bound (R226). -/
abbrev midCommandOk (s : State) : Prop :=
  (textChecked s.phase = true → s.textBase.toNat + s.textLen.toNat ≤ 65536) ∧
    (scanning s.phase = true → s.cur.toNat ≤ s.textLen.toNat ∧
      0 ≤ s.n.toInt ∧ s.n.toInt ≤ 128 * (s.cur.toNat : Int) ∧
      (0 < s.mwEff.toInt → s.n.toInt ≤ s.mwEff.toInt))

/-- The invariant of every step: text memory is in canonical form, widths are never negative (R26),
and a command that runs is in order. -/
abbrev Inv (s : State) : Prop :=
  Memory.wf s.text = true ∧ 0 ≤ s.widthUsed.toInt ∧ 0 ≤ s.natural.toInt ∧ 0 ≤ s.n1.toInt ∧
    midCommandOk s

/-- A host operation that touches no undefined register number (R40, U9): the premise of a claim
about a program. -/
def accessDefined : HostOp → Bool
  | .regWrite k _ => k ≤ 10
  | .regRead k => k ≤ 10
  | .placeText _ _ => true
  | .setSurfW _ => true
  | .textLeft _ _ _ _ _ => true
  | .textCentered _ _ _ _ _ => true

/-- A safe state to run a program from: the parameters are well formed (R140, U6), the program uses
defined registers only (U9) and no Illegal has been recorded (R246). -/
def safe (s : State) : Bool :=
  s.par.wf && s.host.all accessDefined && !s.illegal

end Sys2Proof.Machine

namespace Sys2Proof.Ref

open Font (Record)
open Machine (State Pixel)

/-- The first record in table order whose whole key is a prefix of `q` (R156, R157). -/
def find (rs : List Record) (q : List Byte) : Option Record :=
  rs.find? fun r => r.key.isPrefixOf q

/-- The record's key is one decimal digit (R117). -/
def digit (r : Record) : Bool :=
  r.key.length == 1 && 0x30 ≤ (Font.firstByte r).toNat && (Font.firstByte r).toNat ≤ 0x39

/-- The record whose bitmap is used: under TABULAR a digit's variant, where the font has one (R178). -/
def used (p : Params) (rs : List Record) (tab : Bool) (r : Record) : Record :=
  if tab && digit r then (find rs [p.esc, Font.firstByte r]).getD r else r

/-- Some set row of `b` is the same as, or next to, some set row of `t` (R182, R190). -/
def touches (b t : Half) : Bool :=
  (List.range 16).any fun rb => (List.range 16).any fun rt =>
    b.getLsbD rb && t.getLsbD rt && rb ≤ rt + 1 && rt ≤ rb + 1

/-- Is a gap inserted, for a glyph with first column `b`; `first` says the pen is at 0 (R180 to
R182)? -/
def hasGap (first : Bool) (t b : Half) (tab dg pd : Bool) : Bool :=
  !first && (if tab && (dg || pd) then true else touches b t)

/-- A pass's operands, as integers (R170). -/
structure Pass where
  x : Int
  y : Int
  mw : Int
  surfW : Int
  tab : Bool
  meas : Bool
  deriving DecidableEq, Repr

/-- What a pass carries from token to token, besides the cursor (R44). -/
structure Pen where
  n : Int
  t : Half
  pd : Bool
  deriving DecidableEq, Repr

/-- The pen at the start of a pass (R171). -/
def Pen.start : Pen := { n := 0, t := 0, pd := false }

/-- The pixel events of the columns `cs` drawn from `xa` rightwards, in the order of R78 (R185). -/
def events (c : Pass) (xa : Int) (cs : List Half) : List (Int × Int) :=
  (List.range cs.length).flatMap fun (j : Nat) =>
    if 0 ≤ xa + (j : Int) ∧ xa + (j : Int) < c.surfW then
      (List.range 16).filterMap fun (r : Nat) =>
        if (cs.getD j 0).getLsbD r then some (xa + (j : Int), c.y - 4 + (r : Int)) else none
    else []

/-- One pass over the remaining text: the pen offset it returns and its pixel events in order (R170
to R188). The fuel is the number of tokens, at most the number of bytes (R291). -/
def scan (p : Params) (rs : List Record) (c : Pass) : Nat → Pen → List Byte → Int × List (Int × Int)
  | 0, pen, _ => (pen.n, [])
  | _ + 1, pen, [] => (pen.n, [])
  | k + 1, pen, b :: q =>
    if b = Config.spaceByte then
      if 0 < c.mw ∧ c.mw ≤ pen.n + 3 then (pen.n, [])
      else scan p rs c k { pen with n := pen.n + 3, t := 0 } q
    else if b = p.kreset then scan p rs c k { pen with t := 0 } q
    else
      match find rs (b :: q) with
      | none => scan p rs c k pen q
      | some r =>
        let cs := Font.recordColumns p.col16 (used p rs c.tab r)
        let w : Int := cs.length
        let cell := c.tab && digit r
        let gap : Int := if hasGap (pen.n == 0) pen.t (cs.headD 0) c.tab (digit r) pen.pd then 1 else 0
        let req : Int := (if cell then 5 else w) + gap
        if 0 < c.mw ∧ c.mw < pen.n + req then (pen.n, [])
        else
          let lead : Int := if cell then (5 - w) / 2 else 0
          let rest := scan p rs c k { n := pen.n + req, t := cs.getLastD 0, pd := digit r }
            ((b :: q).drop r.key.length)
          (rest.1, (if c.meas then [] else events c (c.x + pen.n + gap + lead) cs) ++ rest.2)

/-- A pass from its start over the command's text (R170, R171). -/
def pass (s : State) (rs : List Record) (x mw : Int) (tab meas : Bool) : Int × List (Int × Int) :=
  scan s.par rs
    { x := x, y := s.y.toInt, mw := mw, surfW := s.surfW.toInt, tab := tab, meas := meas }
    (Machine.commandText s).length Pen.start (Machine.commandText s)

/-- The origin's shift for slack `d` (R214). -/
def shiftOf (al : Align) (d : Int) : Int :=
  match al with
  | .left => 0
  | .right => d
  | .center => d / 2

/-- NATURAL, WIDTH_USED and the pixel events of a legal LAYOUT command (R211 to R216): one pass for
LEFT; for RIGHT and CENTER a measuring pass, then a pass at the shifted origin bounded by what was
measured. -/
def layout (s : State) (rs : List Record) (al : Align) (tb m : Bool) :
    Int × Int × List (Int × Int) :=
  match al with
  | .left =>
    let r := pass s rs s.x.toInt s.maxw.toInt tb m
    (r.1, r.1, r.2)
  | .right =>
    let n1 := (pass s rs s.x.toInt s.maxw.toInt tb true).1
    let r := pass s rs (s.x.toInt + shiftOf .right (s.maxw.toInt - n1)) n1 tb m
    (n1, r.1, r.2)
  | .center =>
    let n1 := (pass s rs s.x.toInt s.maxw.toInt tb true).1
    let r := pass s rs (s.x.toInt + shiftOf .center (s.maxw.toInt - n1)) n1 tb m
    (n1, r.1, r.2)

/-- The pixel events of the columns `cs` drawn from `xa` rightwards, in the machine's 32-bit
arithmetic (R185): columns, then rows, ascending; a column off the surface emits none. -/
def wordEvents (surfW y xa : Word) (cs : List Half) : List Pixel :=
  (List.range cs.length).flatMap fun (j : Nat) =>
    let x := xa + BitVec.ofNat 32 j
    if 0 ≤ x.toInt ∧ x.toInt < surfW.toInt then
      (List.range 16).filterMap fun (r : Nat) =>
        if (cs.getD j 0).getLsbD r then some { x := x, y := y - 4 + BitVec.ofNat 32 r } else none
    else []

/-- A glyph source a record can hold: a key of 1 to 255 bytes, at most 127 bitmap bytes, and in an
8-row glyph no row below the eighth (R95, R96, R97). -/
def sourceOk (g : GlyphSource) : Bool :=
  1 ≤ g.key.length && g.key.length ≤ 255 &&
    if g.tall then 2 * g.columns.length ≤ 127
    else g.columns.length ≤ 127 && g.columns.all (fun c => c.toNat < 256)

/-- A record as its author states it. -/
def sourceOf (order : Col16Order) (r : Record) : GlyphSource :=
  { key := r.key, tall := r.tall, columns := Font.recordColumns order r }

/-- A pixel event's coordinates as signed integers (R66). -/
def point (e : Pixel) : Int × Int := (e.x.toInt, e.y.toInt)

end Sys2Proof.Ref
end

