-- ==== Sys2Proof/Certificates/Slice0/Obligations.lean ====
section
/-! DEFINITION. The statements for the provers. Each docstring names the rules of spec/ it
formalises, and says where a clause is the model's own choice (with its log entry). Every statement
about a PFLE, that is about a `State` or about the resolver and the accessors over its parameters,
takes `Params.wf` or `fontOk` as a premise: a malformed font has no meaning and the premise belongs
to every claim (40_font_table.md R142, 60_exceptions.md R245, U1, U6). The others speak of command
words, of arithmetic and of the record format alone. -/

open Sys2Proof Sys2Proof.Machine

/-! ### Reset and the host interface -/

/-- R47, R270: after reset every host register of R37 reads 0, the engine is idle, no pixel event is
pending, and the ROMs hold their parameter contents, whatever they are and whatever width the sink
reports. `State.reset` is that state for the open parameters of `Config` (log 2). -/
def Obligations.ResetRegistersReadZero : Prop :=
  State.reset = State.powerOn Config.params Config.surfW ∧
    ∀ (p : Params) (sw : Half), p.wf = true →
      (∀ k, k ≤ 10 → regValue (State.powerOn p sw) k = 0) ∧
        (State.powerOn p sw).phase = .idle ∧ (State.powerOn p sw).pixels = [] ∧
        (State.powerOn p sw).par = p

/-- The invariant holds after reset, for the open parameters and for any others. It rests on the
reset value 0 of `n1` (log 3) and on text memory with nothing listed (log 4). -/
def Obligations.ResetSatisfiesInvariant : Prop :=
  Inv State.reset ∧ ∀ (p : Params) (sw : Half), p.wf = true → Inv (State.powerOn p sw)

/-- R271: a LAYOUT.L straight after reset is legal and harmless: WIDTH_USED = NATURAL = 0 and
nothing is drawn. -/
def Obligations.LayoutAfterResetIsHarmless : Prop :=
  ∀ (p : Params) (sw : Half) (tb m : Bool), p.wf = true → ∃ t,
    exec (.layoutL tb m) (State.powerOn p sw) = .next t ∧ t.illegal = false ∧ t.widthUsed = 0 ∧
      t.natural = 0 ∧ t.pixels = [] ∧ t.phase = .idle

/-- R38: the operand registers keep `v[15:0]`; TEXT_BASE and TEXT_LEN (2, 3) read it back with
zeros, X, Y and MAXW (4 to 6) with copies of its sign; a write to one leaves every other register.
The 16-bit result registers are read with zeros, the 32-bit ones as they are. -/
def Obligations.RegisterWriteReadsBack : Prop :=
  ∀ (s : State) (k : Nat) (v : Word), s.par.wf = true → 2 ≤ k → k ≤ 6 →
    regValue (s.regWrite k v) k
        = (if k ≤ 3 then (v.setWidth 16).setWidth 32 else (v.setWidth 16).signExtend 32) ∧
      (∀ j, j ≠ k → regValue (s.regWrite k v) j = regValue s j) ∧
      regValue s 7 = s.widthUsed ∧ regValue s 8 = s.natural ∧
      regValue s 9 = s.resOff.setWidth 32 ∧ regValue s 10 = s.resInfo.setWidth 32

/-- R33, R34, R37, R38: what RegRead returns for each register number of the map. -/
def Obligations.RegisterMapReads : Prop :=
  ∀ s : State, s.par.wf = true →
    regValue s 0 = 0 ∧
      regValue s 1 = BitVec.ofNat 32 (s.illegal.toNat + 2 * s.found.toNat) ∧
      regValue s 2 = s.textBase.setWidth 32 ∧ regValue s 3 = s.textLen.setWidth 32 ∧
      regValue s 4 = s.x.signExtend 32 ∧ regValue s 5 = s.y.signExtend 32 ∧
      regValue s 6 = s.maxw.signExtend 32 ∧ regValue s 7 = s.widthUsed ∧
      regValue s 8 = s.natural ∧ regValue s 9 = s.resOff.setWidth 32 ∧
      regValue s 10 = s.resInfo.setWidth 32

/-- R39: a host write to a read-only register (1, 7, 8, 9, 10) changes nothing and raises nothing:
the step only takes the access off the host's queue. -/
def Obligations.ReadOnlyRegistersIgnoreWrites : Prop :=
  ∀ (s : State) (k : Nat) (v : Word) (rest : List HostOp), s.par.wf = true →
    s.phase = .idle → s.host = .regWrite k v :: rest → k ∈ [1, 7, 8, 9, 10] →
    step s = .next { s with host := rest }

/-- R36, R35, R118, R119: one step of an idle engine is the next operation of the host or the
platform. RegRead(k) returns the register's value and changes nothing else; a RegWrite to a register
other than CMD stores; the sink reports a new width; a wrapper runs as the instruction it is; with
no operation the engine waits (log 18). The queue and the list of returned values are the model's
own (log 7), and so are a wrapper and a new width as one operation of it (log 16, log 17). -/
def Obligations.HostAccessIsOneStep : Prop :=
  ∀ (s : State) (rest : List HostOp), s.par.wf = true → s.phase = .idle →
    (∀ k, s.host = .regRead k :: rest →
        step s = .next { s with host := rest, reads := s.reads ++ [regValue s k] }) ∧
      (∀ k v, s.host = .regWrite k v :: rest → k ≠ 0 →
        step s = .next { s.regWrite k v with host := rest }) ∧
      (∀ v, s.host = .setSurfW v :: rest → step s = .next { s with host := rest, surfW := v }) ∧
      (∀ addr len x y w, s.host = .textLeft addr len x y w :: rest →
        step s = exec (.textLeft addr len x y w) { s with host := rest }) ∧
      (∀ addr len x y w, s.host = .textCentered addr len x y w :: rest →
        step s = exec (.textCentered addr len x y w) { s with host := rest }) ∧
      (s.host = [] → step s = .next s)

/-- R40: register numbers 11 and above read 0 and ignore a write (the hardware's behaviour; a claim
about a program excludes them by `Machine.safe`, U9, log 10). -/
def Obligations.UndefinedRegistersAreInert : Prop :=
  ∀ (s : State) (k : Nat) (v : Word), s.par.wf = true → 11 ≤ k →
    regValue s k = 0 ∧ s.regWrite k v = s

/-- R64: the platform places a byte of text in one step of an idle engine; it is read back at its
address and every other address of text memory, and all else, is as before. -/
def Obligations.PlacedTextReadsBack : Prop :=
  ∀ (s : State) (a : Half) (b : Byte) (rest : List HostOp), s.par.wf = true →
    s.phase = .idle → s.host = .placeText a b :: rest → Memory.wf s.text = true →
    ∃ t, step s = .next t ∧ t = { s with host := rest, text := t.text } ∧
      ∀ x, Memory.read t.text x = if x = a.toNat then b else Memory.read s.text x

/-! ### A step runs the decoded instruction -/

/-- R33, R41: a host write to CMD runs the command its word decodes to, to completion, as one step;
an illegal word raises Illegal instead (R246). That a command is one step is log 5. -/
def Obligations.StepRunsWrittenCommand : Prop :=
  ∀ (s : State) (v : Word) (rest : List HostOp), s.par.wf = true → s.phase = .idle →
    s.host = .regWrite 0 v :: rest →
    (∀ i, decodeCmd v = .ok i → step s = exec i { s with host := rest }) ∧
      (∀ e, decodeCmd v = .error e → step s = .next { s with host := rest, illegal := true })

/-- R172, R173: in a state that stands inside a pass a step executes the token that the remaining
text decodes to at the cursor. Such states are the finer relation of R221; commands themselves are
atomic (log 5). -/
def Obligations.StepRunsDecodedToken : Prop :=
  ∀ (s : State) (c : Byte) (cs : List Byte) (i : Instr), s.par.wf = true → s.phase.inPass = true →
    s.textBase.toNat + s.textLen.toNat ≤ 65536 → remainingText s = c :: cs →
    decodeToken s.par c cs = .ok i → step s = exec i s

/-- R171, R172, R214, R215, R216, R221: the micro-sequencer's steps in and after a pass. At the end
of the text a pass goes to SHIFT or DONE; SHIFT keeps `n1` and starts pass 2 at the shifted origin,
with the command's own `m`; DONE of a layout writes the result registers and the engine is idle.
What a phase carries (the mode, `m`, whether there was a first pass) is the model's own (log 6), and
so is that the working registers and `cur` keep their values in and after DONE (log 14). -/
def Obligations.MicroSequencerSteps : Prop :=
  ∀ s : State, s.par.wf = true →
    (s.phase.inPass = true → s.textBase.toNat + s.textLen.toNat ≤ 65536 → remainingText s = [] →
        step s = .next { s with phase := afterPass s.phase }) ∧
      (∀ mode m, s.phase = .shift mode m →
        step s = .next { s with
          n1 := s.n, n := 0, t := 0, pd := false, cur := 0, mwEff := s.n, measEff := m,
          phase := .pass2 true,
          xEff := s.x.signExtend 32 +
            (match mode with
              | .right => s.maxw.signExtend 32 - s.n
              | .center => (s.maxw.signExtend 32 - s.n).sshiftRight 1) }) ∧
      (∀ aligned, s.phase = .done (.layout aligned) →
        step s = .next { s with
          widthUsed := s.n, natural := (if aligned then s.n1 else s.n), phase := .idle })

/-- R221, R233: the step of CHECK. A text that wraps is Illegal and the engine idle again; else
RESOLVE goes to RESOLVE_RUN, LAYOUT.L to PASS2 with its own `m`, LAYOUT.R and LAYOUT.C to PASS1,
measuring, each with a fresh pass at origin X with bound MAXW (R171). What the phases carry is the
model's own (log 6). -/
def Obligations.CheckPhaseSteps : Prop :=
  ∀ s : State, s.par.wf = true →
    (∀ c, s.phase = .check c → 65536 < s.textBase.toNat + s.textLen.toNat →
        step s = .next { s with illegal := true, phase := .idle }) ∧
      (s.textBase.toNat + s.textLen.toNat ≤ 65536 →
        (s.phase = .check .resolve → step s = .next { s with phase := .resolveRun }) ∧
          ∀ al tb m, s.phase = .check (.layout al tb m) →
            step s = .next { s with
              tab := tb, n := 0, t := 0, pd := false, cur := 0, xEff := s.x.signExtend 32,
              mwEff := s.maxw.signExtend 32,
              measEff := (match al with | .left => m | .right => true | .center => true),
              phase := (match al with
                | .left => .pass2 false
                | .right => .pass1 .right m
                | .center => .pass1 .center m) })

/-- R159, R221: RESOLVE_RUN finds the first record in table order whose key is a prefix of the text
and hands its offset and its RES_INFO, or that there is none, to DONE, which writes FOUND, RES_OFF
and RES_INFO and leaves the engine idle. How the phase DONE carries them is the model's own (log 6),
and so is that the working registers keep their values in and after DONE (log 14); of `o` after
RESOLVE_RUN the statement says nothing. -/
def Obligations.ResolvePhaseSteps : Prop :=
  ∀ (s : State) (rs : List Font.Record), s.par.wf = true → Font.records s.par = some rs →
    (s.phase = .resolveRun → s.textBase.toNat + s.textLen.toNat ≤ 65536 →
        ∃ v : Offset, step s = .next { s with
          o := v,
          phase := .done (.resolve ((Ref.find rs (commandText s)).map fun r =>
            (BitVec.ofNat 16 r.off, BitVec.ofNat 16
              (r.tall.toNat * 32768 + r.bitmap.length * 256 + r.key.length)))) }) ∧
      (∀ off info, s.phase = .done (.resolve (some (off, info))) →
        step s = .next { s with found := true, resOff := off, resInfo := info, phase := .idle }) ∧
      (s.phase = .done (.resolve none) →
        step s = .next { s with found := false, resOff := 0xFFFF, resInfo := 0, phase := .idle })

/-! ### Encodings -/

/-- R92, R103, R110: command words and text bytes written out from the spec's encodings decode to
the instructions they stand for, whatever the well-formed font; the record of "H" worked out in R103
is parsed into its fields. -/
def Obligations.SampleEncodingsDecode : Prop :=
  decodeCmd 0x10#32 = .ok (.layoutL false false) ∧ decodeCmd 0x15#32 = .ok (.layoutR true false) ∧
    decodeCmd 0x1A#32 = .ok (.layoutC false true) ∧ decodeCmd 0x20#32 = .ok .resolve ∧
    (∀ p cs, p.wf = true → decodeToken p 0x20#8 cs = .ok .sp) ∧
    Font.parseRecords 3 0 [0x01#8, 0x48#8, 0x05#8, 0x3F#8, 0x04#8, 0x04#8, 0x04#8, 0x3F#8, 0x00#8]
      = some [{ off := 0, key := [0x48#8], tall := false,
                bitmap := [0x3F#8, 0x04#8, 0x04#8, 0x04#8, 0x3F#8] }]

/-- R92: a word `v` selects the row for which `v & mask = match`, with `tb` and `m` its bits 2 and
3; R94: a word that matches no row is illegal. -/
def Obligations.CommandWordsMatchTheTable : Prop :=
  ∀ v : Word,
    (v &&& 0xFFFFFFF3#32 = 0x10#32 →
        decodeCmd v = .ok (.layoutL (v.getLsbD 2) (v.getLsbD 3))) ∧
      (v &&& 0xFFFFFFF3#32 = 0x11#32 →
        decodeCmd v = .ok (.layoutR (v.getLsbD 2) (v.getLsbD 3))) ∧
      (v &&& 0xFFFFFFF3#32 = 0x12#32 →
        decodeCmd v = .ok (.layoutC (v.getLsbD 2) (v.getLsbD 3))) ∧
      (v &&& 0xFFFFFFFF#32 = 0x20#32 → decodeCmd v = .ok .resolve) ∧
      (v &&& 0xFFFFFFF3#32 ≠ 0x10#32 → v &&& 0xFFFFFFF3#32 ≠ 0x11#32 →
        v &&& 0xFFFFFFF3#32 ≠ 0x12#32 → v ≠ 0x20#32 → ∃ e, decodeCmd v = .error e)

/-- Each legal command word has one spelling: encoding what it decodes to gives it back. -/
def Obligations.CommandEncodeAfterDecode : Prop :=
  ∀ (p : Params) (v : Word) (i : Instr), decodeCmd v = .ok i → encode p i = .cmd v

/-- R94, R246, R247 (a): a word with `v[31:8]` not 0, with an `op` other than 1 and 2, with `op = 1`
and `al = 3`, or with `op = 2` and a bit of 3:0 set sets STATUS.ILLEGAL and changes nothing else,
whatever the operands. -/
def Obligations.IllegalWordOnlySetsIllegal : Prop :=
  ∀ (s : State) (v : Word) (rest : List HostOp), s.par.wf = true → s.phase = .idle →
    s.host = .regWrite 0 v :: rest →
    (v.toNat / 256 ≠ 0 ∨ (v.toNat / 16 % 16 ≠ 1 ∧ v.toNat / 16 % 16 ≠ 2) ∨
      (v.toNat / 16 % 16 = 1 ∧ v.toNat % 4 = 3) ∨
      (v.toNat / 16 % 16 = 2 ∧ v.toNat % 16 ≠ 0)) →
    step s = .next { s with host := rest, illegal := true }

/-- Decoding the encoding of a well-formed instruction gives it back, for every operand: every
command, every wrapper, and every token the text can spell (R90 to R93, R110 to R114, R119, R157).
-/
def Obligations.DecodeEncodeRoundTrip : Prop :=
  ∀ (p : Params) (i : Instr), p.wf = true → i.wf p = true → decode p (encode p i) = .ok i

/-- R95 to R98: a glyph ROM written by the record format, sentinel last, is read back as the glyphs
it was written from, each at the offset where its record was put, in either byte order of a column
(R68, R138). -/
def Obligations.FontImageReadsBack : Prop :=
  ∀ (p : Params) (gs : List GlyphSource), (∀ g ∈ gs, Ref.sourceOk g = true) →
    p.font = encodeFont p.col16 gs →
    ∃ rs, Font.records p = some rs ∧ rs.map (Ref.sourceOf p.col16) = gs ∧
      ∀ k, k < gs.length →
        (rs.map (·.off))[k]? = some ((gs.take k).flatMap (encodeRecord p.col16)).length

/-! ### The Font Table and the resolver -/

/-- R130 to R138 against R95 to R97: under `WF_FONT` every accessor of a record's offset gives that
field of the record. -/
def Obligations.AccessorsReadRecordFields : Prop :=
  ∀ (p : Params) (rs : List Font.Record) (r : Font.Record), fontOk p = true →
    Font.records p = some rs → r ∈ rs →
    Font.keyLen p r.off = .ok (BitVec.ofNat 8 r.key.length) ∧
      (∀ i, i < r.key.length → Font.keyByte p r.off i = .ok (r.key.getD i 0)) ∧
      Font.blf p r.off = .ok (BitVec.ofBool r.tall ++ BitVec.ofNat 7 r.bitmap.length) ∧
      Font.h16 p r.off = .ok r.tall ∧
      Font.bitmapLen p r.off = .ok (BitVec.ofNat 7 r.bitmap.length) ∧
      Font.bitmapPtr p r.off = .ok (r.off + 2 + r.key.length) ∧
      Font.cols p r.off = .ok (BitVec.ofNat 7 (Font.recordColumns p.col16 r).length) ∧
      Font.recLen p r.off = .ok (2 + r.key.length + r.bitmap.length) ∧
      ∀ c, c < (Font.recordColumns p.col16 r).length →
        Font.column p r.off c = .ok ((Font.recordColumns p.col16 r).getD c 0)

/-- R151, R152: an empty input is not found, and neither is one whose bucket is empty; the glyph ROM
is not read. -/
def Obligations.EmptyInputAndBucketAreNotFound : Prop :=
  ∀ p : Params, p.wf = true → Font.resolve p [] = .ok none ∧
    ∀ (b : Byte) (q : List Byte), p.index.get ⟨b.toNat / 4, by have := b.isLt; omega⟩ = 0xFFFF#16 →
      Font.resolve p (b :: q) = .ok none

/-- R157: under `WF_FONT` the resolver, with its index and its early exit, finds the first record in
table order whose key is a prefix of the input, and nothing exactly when there is none. -/
def Obligations.ResolverFindsFirstPrefixInTableOrder : Prop :=
  ∀ (p : Params) (rs : List Font.Record) (q : List Byte), fontOk p = true →
    Font.records p = some rs →
    Font.resolve p q = .ok ((rs.find? (fun r => r.key.isPrefixOf q)).map (·.off))

/-- R161: the resolver reads the input only as far as the longest key needs, at most its first 255
bytes. -/
def Obligations.ResolverReadsAtMost255Bytes : Prop :=
  ∀ (p : Params) (q : List Byte), p.wf = true →
    Font.resolve p q = Font.resolve p (q.take 255)

/-! ### Tests and pen arithmetic -/

/-- R190: the kerning test of R182 holds exactly when some set row of one column is the same as, or
next to, some set row of the other; in 16 bits the test gives the same answer. -/
def Obligations.KerningTestIsRowAdjacency : Prop :=
  ∀ b t : Half,
    (columnsTouch b t = true ↔ ∃ rb rt : Nat, rb < 16 ∧ rt < 16 ∧ b.getLsbD rb = true ∧
        t.getLsbD rt = true ∧ rb ≤ rt + 1 ∧ rt ≤ rb + 1) ∧
      (columnsTouch b t = true ↔ (b ||| b <<< 1) &&& (t ||| t <<< 1) ≠ 0)

/-- R191: a GLYPH token that is not truncated advances the pen by exactly `req`: the gap and the
columns, or the gap and the 5-pixel cell, for every column count. -/
def Obligations.GlyphAdvanceEqualsRequiredWidth : Prop :=
  ∀ (n : Word) (w : BitVec 7) (gap : Bool),
    penAfter n false w gap = n + (gapWidth gap + w.setWidth 32) ∧
      penAfter n true w gap = n + (gapWidth gap + 5#32) ∧
      ∀ cell, penAfter n cell w gap = n + glyphReq cell w gap

/-- R8: `floor2` is the floor of half for every sign. -/
def Obligations.FloorHalfRoundsDown : Prop :=
  ∀ v : Word, (floor2 v).toInt = v.toInt / 2

/-! ### Tokens -/

/-- R174: SP inside a pass completes: it ends the pass when `mw_eff > 0 and n + 3 >= mw_eff`, and
otherwise advances the pen by 3, clears `t` and moves the cursor on by one byte; nothing else
changes. Where the cursor stands when SP ends the pass is left open (R31, U11). -/
def Obligations.SpaceResult : Prop :=
  ∀ s : State, s.par.wf = true → s.phase.inPass = true →
    (0 < s.mwEff.toInt ∧ s.mwEff.toInt ≤ (s.n + 3#32).toInt →
      ∃ c : Offset, exec .sp s = .next { s with phase := afterPass s.phase, cur := c }) ∧
    (¬ (0 < s.mwEff.toInt ∧ s.mwEff.toInt ≤ (s.n + 3#32).toInt) →
      exec .sp s = .next { s with n := s.n + 3#32, t := 0, cur := s.cur + 1 })

/-- R175: KR inside a pass completes: `t` is cleared and the cursor moves on by one byte; nothing
else changes. -/
def Obligations.KernResetResult : Prop :=
  ∀ s : State, s.par.wf = true → s.phase.inPass = true →
    exec .kr s = .next { s with t := 0, cur := s.cur + 1 }

/-- R188: SKIP inside a pass completes, whatever its byte: the cursor moves on by one byte; nothing
else changes. -/
def Obligations.SkipResult : Prop :=
  ∀ (s : State) (b : Byte), s.par.wf = true → s.phase.inPass = true →
    exec (.skip b) s = .next { s with cur := s.cur + 1 }

/-- R177 to R187, R189: GLYPH(o) inside a pass completes under `WF_FONT` for every record of the
font. It sets the working registers `o`, `g`, `dg`, `w`, `gap` and, for a tabular digit, `esc`. With
the record used, its columns, the gap and the required width as the rules give them, it either ends
the pass with `n`, `t`, `pd` and the pixel events as they were (where the cursor then stands is left
open, R31, U11), or advances the pen by the required width and the cursor by the original key's
length, records the last column and the digit flag, and emits the glyph's events at the pen after
gap and leading padding. -/
def Obligations.GlyphResult : Prop :=
  ∀ (s : State) (o : Offset) (rs : List Font.Record) (r : Font.Record), s.par.wf = true →
    Font.records s.par = some rs → r ∈ rs → r.off = o.toNat → s.phase.inPass = true →
    let cs := Font.recordColumns s.par.col16 (Ref.used s.par rs s.tab r)
    let w : Word := BitVec.ofNat 32 cs.length
    let cell := s.tab && Ref.digit r
    let gap : Word :=
      if Ref.hasGap (s.n == 0) s.t (cs.headD 0) s.tab (Ref.digit r) s.pd then 1 else 0
    let req : Word := (if cell then 5 else w) + gap
    let lead : Word := if cell then (5 - w).sshiftRight 1 else 0
    ∃ t, exec (.glyph o) s = .next t ∧ t.o = o ∧
      t.g = BitVec.ofNat 17 (Ref.used s.par rs s.tab r).off ∧ t.dg = Ref.digit r ∧
      t.w = BitVec.ofNat 7 cs.length ∧
      t.gap = Ref.hasGap (s.n == 0) s.t (cs.headD 0) s.tab (Ref.digit r) s.pd ∧
      (cell = true → t.esc0 = s.par.esc ∧ t.esc1 = Font.firstByte r) ∧
      (0 < s.mwEff.toInt ∧ s.mwEff.toInt < (s.n + req).toInt →
        t.n = s.n ∧ t.t = s.t ∧ t.pd = s.pd ∧ t.pixels = s.pixels ∧
          t.phase = afterPass s.phase) ∧
      (¬ (0 < s.mwEff.toInt ∧ s.mwEff.toInt < (s.n + req).toInt) →
        t.n = s.n + req ∧ t.cur = s.cur + BitVec.ofNat 17 r.key.length ∧
          t.t = cs.getLastD 0 ∧ t.pd = Ref.digit r ∧ t.phase = s.phase ∧
          t.pixels = s.pixels ++
            (if s.measEff then []
             else Ref.wordEvents (s.surfW.signExtend 32) (s.y.signExtend 32)
               (s.xEff + s.n + gap + lead) cs))

/-- The frame of the four tokens: host registers, the pass's origin, bound and options, text memory,
parameters and ports stay; SP, KR and SKIP also leave `pd`, the pixel events and GLYPH's working
registers, KR and SKIP the pen and the phase, SKIP `t` (R30, R42, R174, R175, R188). The queue and
the reads are the model's own fields (log 7). -/
def Obligations.TokenFrame : Prop :=
  ∀ (s t : State) (i : Instr), s.par.wf = true →
    (i = .sp ∨ i = .kr ∨ (∃ b, i = .skip b) ∨ ∃ o, i = .glyph o) →
    exec i s = .next t →
    (t.illegal = s.illegal ∧ t.found = s.found ∧ t.textBase = s.textBase ∧ t.textLen = s.textLen ∧
        t.x = s.x ∧ t.y = s.y ∧ t.maxw = s.maxw ∧ t.widthUsed = s.widthUsed ∧
        t.natural = s.natural ∧ t.resOff = s.resOff ∧ t.resInfo = s.resInfo) ∧
      (t.xEff = s.xEff ∧ t.mwEff = s.mwEff ∧ t.measEff = s.measEff ∧ t.tab = s.tab ∧
        t.n1 = s.n1) ∧
      (t.par = s.par ∧ t.surfW = s.surfW ∧ t.reads = s.reads ∧ t.host = s.host ∧
        ∀ a, Memory.read t.text a = Memory.read s.text a) ∧
      ((∀ o, i ≠ .glyph o) → t.pd = s.pd ∧ t.pixels = s.pixels ∧ t.o = s.o ∧ t.g = s.g ∧
        t.dg = s.dg ∧ t.esc0 = s.esc0 ∧ t.esc1 = s.esc1 ∧ t.gap = s.gap ∧ t.w = s.w) ∧
      (i = .kr ∨ (∃ b, i = .skip b) → t.n = s.n ∧ t.phase = s.phase) ∧
      ((∃ b, i = .skip b) → t.t = s.t)

/-- What the model refuses by its own choice (log 11): a token outside a pass and a command or
wrapper inside one; and the token GLYPH with an operand that is no glyph, at whose offset the bytes
give a bitmap of length 0 (R139, log 8, log 22): the decoder gives no such token. -/
def Obligations.RefusalsByName : Prop :=
  ∀ (s : State) (i : Instr), s.par.wf = true →
    (isCommand i = false → s.phase.inPass = false → exec i s = .refused .noPass) ∧
      (isCommand i = true → s.phase ≠ .idle → exec i s = .refused .busy) ∧
      ∀ (o : Offset) (kl k0 bl : Byte), s.phase.inPass = true → s.tab = false → kl ≠ 0 →
        Font.keyLen s.par o.toNat = .ok kl → Font.keyByte s.par o.toNat 0 = .ok k0 →
        Font.blf s.par o.toNat = .ok bl → bl.toNat % 128 = 0 →
        exec (.glyph o) s = .refused (.malformedFont .noColumns)

/-! ### Commands -/

/-- R65, R233, R246, R247 (b): a command whose text would wrap past the top of text memory sets
STATUS.ILLEGAL and changes nothing else. -/
def Obligations.WrappingTextIsIllegal : Prop :=
  ∀ (s : State) (tb m : Bool), s.par.wf = true → s.phase = .idle →
    65536 < s.textBase.toNat + s.textLen.toNat →
    exec (.layoutL tb m) s = .next { s with illegal := true } ∧
      exec (.layoutR tb m) s = .next { s with illegal := true } ∧
      exec (.layoutC tb m) s = .next { s with illegal := true } ∧
      exec .resolve s = .next { s with illegal := true }

/-- R159: RESOLVE completes under `WF_FONT`. For the first record in table order whose key is a
prefix of the text it sets FOUND, RES_OFF to the record's offset and RES_INFO to height class,
bitmap length and key length; where there is none it clears FOUND and writes 0xFFFF and 0. Nothing
else changes but the working register `o` (R150), of which the statement says nothing. A text that
wraps is Illegal. -/
def Obligations.ResolveResult : Prop :=
  ∀ (s : State) (rs : List Font.Record), s.par.wf = true → Font.records s.par = some rs →
    s.phase = .idle →
    (s.textBase.toNat + s.textLen.toNat ≤ 65536 →
      ∃ v : Offset, exec .resolve s = .next
        (match Ref.find rs (commandText s) with
        | some r => { s with
            found := true, resOff := BitVec.ofNat 16 r.off, o := v,
            resInfo := BitVec.ofNat 16
              (r.tall.toNat * 32768 + r.bitmap.length * 256 + r.key.length) }
        | none => { s with found := false, resOff := 0xFFFF, resInfo := 0, o := v })) ∧
    (65536 < s.textBase.toNat + s.textLen.toNat →
      exec .resolve s = .next { s with illegal := true })

/-- R170 to R189, R211, R216: LAYOUT.L completes under `WF_FONT` when its text does not wrap, and
its WIDTH_USED, NATURAL and pixel events are those of one pass of the reference layout at origin X
with bound MAXW; where it wraps, the command is Illegal. The reference finds keys in table order and
computes in integers, so this says also that index and early exit lose nothing (R157) and that no
32-bit expression overflows (R232). -/
def Obligations.LayoutLeftRefinesReference : Prop :=
  ∀ (s : State) (rs : List Font.Record) (tb m : Bool), s.par.wf = true →
    Font.records s.par = some rs → s.phase = .idle →
    (s.textBase.toNat + s.textLen.toNat ≤ 65536 →
      ∃ t, exec (.layoutL tb m) s = .next t ∧ t.phase = .idle ∧ t.illegal = s.illegal ∧
        t.natural.toInt = (Ref.layout s rs .left tb m).1 ∧
        t.widthUsed.toInt = (Ref.layout s rs .left tb m).2.1 ∧
        t.pixels.map Ref.point = s.pixels.map Ref.point ++ (Ref.layout s rs .left tb m).2.2) ∧
    (65536 < s.textBase.toNat + s.textLen.toNat →
      exec (.layoutL tb m) s = .next { s with illegal := true })

/-- R212 to R216: LAYOUT.R and LAYOUT.C complete under `WF_FONT` when their text does not wrap, and
NATURAL, WIDTH_USED and the pixel events are those of the reference's two passes: a measuring pass,
then a pass at the shifted origin bounded by what was measured, drawing unless the command's own `m`
is set. Where the text wraps, the command is Illegal. -/
def Obligations.LayoutAlignedRefinesReference : Prop :=
  ∀ (s : State) (rs : List Font.Record) (tb m : Bool), s.par.wf = true →
    Font.records s.par = some rs → s.phase = .idle →
    (s.textBase.toNat + s.textLen.toNat ≤ 65536 →
      (∃ t, exec (.layoutR tb m) s = .next t ∧ t.phase = .idle ∧ t.illegal = s.illegal ∧
        t.natural.toInt = (Ref.layout s rs .right tb m).1 ∧
        t.widthUsed.toInt = (Ref.layout s rs .right tb m).2.1 ∧
        t.pixels.map Ref.point = s.pixels.map Ref.point ++ (Ref.layout s rs .right tb m).2.2) ∧
      (∃ t, exec (.layoutC tb m) s = .next t ∧ t.phase = .idle ∧ t.illegal = s.illegal ∧
        t.natural.toInt = (Ref.layout s rs .center tb m).1 ∧
        t.widthUsed.toInt = (Ref.layout s rs .center tb m).2.1 ∧
        t.pixels.map Ref.point = s.pixels.map Ref.point ++ (Ref.layout s rs .center tb m).2.2)) ∧
    (65536 < s.textBase.toNat + s.textLen.toNat →
      exec (.layoutR tb m) s = .next { s with illegal := true } ∧
        exec (.layoutC tb m) s = .next { s with illegal := true })

/-- R119, R219, R220: TEXT_LEFT and TEXT_CENTERED complete under `WF_FONT`: each is its five operand
writes, LAYOUT.L or LAYOUT.C without options, and the read of WIDTH_USED, which the host gets. -/
def Obligations.WrapperResult : Prop :=
  ∀ (s : State) (addr len x y w : Word), s.par.wf = true → s.phase = .idle →
    (∃ t u, exec (.textLeft addr len x y w) s = .next t ∧
      exec (.layoutL false false) { s with
        textBase := addr.setWidth 16, textLen := len.setWidth 16, x := x.setWidth 16,
        y := y.setWidth 16, maxw := w.setWidth 16 } = .next u ∧
      t = { u with reads := s.reads ++ [u.widthUsed] }) ∧
    (∃ t u, exec (.textCentered addr len x y w) s = .next t ∧
      exec (.layoutC false false) { s with
        textBase := addr.setWidth 16, textLen := len.setWidth 16, x := x.setWidth 16,
        y := y.setWidth 16, maxw := w.setWidth 16 } = .next u ∧
      t = { u with reads := s.reads ++ [u.widthUsed] })

/-- R119: executing a wrapper is the same as the host's seven accesses of its expansion, one step
each. That a wrapper is one step is the model's choice
(log 16). -/
def Obligations.WrapperEqualsItsExpansion : Prop :=
  ∀ (s : State) (addr len x y w : Word), s.par.wf = true → s.phase = .idle →
    exec (.textLeft addr len x y w) s
        = Sys2Proof.core.run 7 { s with
            host := wrapperOps addr len x y w 0x10#32 ++ s.host } ∧
      exec (.textCentered addr len x y w) s
        = Sys2Proof.core.run 7 { s with
            host := wrapperOps addr len x y w 0x12#32 ++ s.host }

/-- R42, R43, R210: the frame of the LAYOUT commands. Operand registers, STATUS.FOUND, RES_OFF,
RES_INFO, text memory, parameters and host ports stay; STATUS.ILLEGAL changes only for a wrapping
text; pixel events are only added, and none is under MEASURE_ONLY; GLYPH's, the passes' and the
micro-sequencer's working registers may change (R30). -/
def Obligations.LayoutFrame : Prop :=
  ∀ (s t : State) (al : Align) (tb m : Bool), s.par.wf = true →
    exec (layoutInstr al tb m) s = .next t →
    (t.textBase = s.textBase ∧ t.textLen = s.textLen ∧ t.x = s.x ∧ t.y = s.y ∧ t.maxw = s.maxw) ∧
      (t.found = s.found ∧ t.resOff = s.resOff ∧ t.resInfo = s.resInfo) ∧
      (∀ a, Memory.read t.text a = Memory.read s.text a) ∧
      (t.par = s.par ∧ t.surfW = s.surfW ∧ t.reads = s.reads ∧ t.host = s.host) ∧
      (s.textBase.toNat + s.textLen.toNat ≤ 65536 → t.illegal = s.illegal) ∧
      (∃ es, t.pixels = s.pixels ++ es ∧ (m = true → es = [])) ∧ t.phase = .idle

/-- R42, R43, R119, R210, R219, R220: the frame of the wrappers. The operand registers hold the low
halves of the values written; STATUS.FOUND, RES_OFF, RES_INFO, text memory, parameters and the
host's queue stay; STATUS.ILLEGAL changes only for a wrapping text; pixel events are only added; the
host gets the value WIDTH_USED then has. -/
def Obligations.WrapperFrame : Prop :=
  ∀ (s t : State) (addr len x y w : Word), s.par.wf = true →
    exec (.textLeft addr len x y w) s = .next t ∨ exec (.textCentered addr len x y w) s = .next t →
    (t.textBase = addr.setWidth 16 ∧ t.textLen = len.setWidth 16 ∧ t.x = x.setWidth 16 ∧
        t.y = y.setWidth 16 ∧ t.maxw = w.setWidth 16) ∧
      (t.found = s.found ∧ t.resOff = s.resOff ∧ t.resInfo = s.resInfo) ∧
      (∀ a, Memory.read t.text a = Memory.read s.text a) ∧
      (t.par = s.par ∧ t.surfW = s.surfW ∧ t.reads = s.reads ++ [t.widthUsed] ∧ t.host = s.host) ∧
      (t.textBase.toNat + t.textLen.toNat ≤ 65536 → t.illegal = s.illegal) ∧
      (∃ es, t.pixels = s.pixels ++ es) ∧ t.phase = .idle

/-- R26, R42, R43, R159: the frame of RESOLVE. Only STATUS.FOUND, RES_OFF, RES_INFO and the working
register `o` can change (R150; what `o` then holds is the model's choice, log 14, and not stated),
and STATUS.ILLEGAL for a wrapping text. -/
def Obligations.ResolveFrame : Prop :=
  ∀ s t : State, s.par.wf = true → exec .resolve s = .next t →
    t = { s with illegal := t.illegal, found := t.found, resOff := t.resOff, resInfo := t.resInfo,
                 o := t.o } ∧
      (s.textBase.toNat + s.textLen.toNat ≤ 65536 → t.illegal = s.illegal) ∧
      (∀ a, Memory.read t.text a = Memory.read s.text a)

/-- R64, R46: no instruction writes text memory, and none changes the ROMs, the byte parameters or
the sink's width. -/
def Obligations.NoInstructionWritesTextOrParameters : Prop :=
  ∀ (s t : State) (i : Instr), s.par.wf = true → exec i s = .next t →
    (∀ a, Memory.read t.text a = Memory.read s.text a) ∧ t.par = s.par ∧ t.surfW = s.surfW

/-- R28, R29: RES_OFF and RES_INFO are written by RESOLVE only, and so is STATUS.FOUND (R34). -/
def Obligations.OnlyResolveWritesItsResults : Prop :=
  ∀ (s t : State) (i : Instr), s.par.wf = true → i ≠ .resolve → exec i s = .next t →
    t.resOff = s.resOff ∧ t.resInfo = s.resInfo ∧ t.found = s.found

/-- R34: STATUS.ILLEGAL is sticky: no step clears it. -/
def Obligations.IllegalIsSticky : Prop :=
  ∀ s t : State, s.par.wf = true → step s = .next t → s.illegal = true → t.illegal = true

/-! ### Properties of whole commands -/

/-- R291: under `WF_FONT` no command's run exceeds the bound of R291: the refusal that stands for it
(log 23) is never answered. -/
def Obligations.CommandsStayWithinStepBound : Prop :=
  ∀ (s : State) (i : Instr), s.par.wf = true → exec i s ≠ .refused .stepBound

/-- R41, R221: a command, legal or Illegal by its text, is a run of the micro-sequencer's steps from
CHECK to the state in which the engine is idle again, at most two tokens a text byte and five phase
changes (R291). That a command is one step for the host is log 5; what
the phase CHECK carries is log 6. -/
def Obligations.CommandIsARunOfSteps : Prop :=
  ∀ (s : State) (c : Command), s.par.wf = true → s.phase = .idle →
    ∃ k, k ≤ 2 * s.textLen.toNat + 5 ∧
      exec (commandInstr c) s = Sys2Proof.core.run k { s with phase := .check c }

/-- R192: the pen of a pass, and so both result registers, depend neither on `m`, nor on X, Y and
`surf_w`; R225's first half is the case where only `m` differs. -/
def Obligations.WidthIndependentOfDrawing : Prop :=
  ∀ (s t : State) (al : Align) (tb m m' : Bool) (x y sw : Half), s.par.wf = true →
    exec (layoutInstr al tb m) s = .next t →
    ∃ t', exec (layoutInstr al tb m') { s with x := x, y := y, surfW := sw } = .next t' ∧
      t'.widthUsed = t.widthUsed ∧ t'.natural = t.natural

/-- R44: nothing is carried from one command to the next except the host registers. From any two
idle states with the same operands, whatever their working registers and earlier results hold: a
LAYOUT command whose text does not wrap gives the same results and the same pixel events; RESOLVE,
which ignores X, Y, MAXW and the sink's width (R159), the same FOUND, RES_OFF and RES_INFO; and a
command whose text wraps only sets ILLEGAL (R65). -/
def Obligations.NoHiddenStateBetweenCommands : Prop :=
  ∀ s s' : State, s.par.wf = true →
    (∀ (t : State) (al : Align) (tb m : Bool), sameOperands s s' →
      s.textBase.toNat + s.textLen.toNat ≤ 65536 → exec (layoutInstr al tb m) s = .next t →
      ∃ t' es, exec (layoutInstr al tb m) s' = .next t' ∧ t'.widthUsed = t.widthUsed ∧
        t'.natural = t.natural ∧ t.pixels = s.pixels ++ es ∧ t'.pixels = s'.pixels ++ es) ∧
    (∀ t : State, sameText s s' → s.textBase.toNat + s.textLen.toNat ≤ 65536 →
      exec .resolve s = .next t →
      ∃ t', exec .resolve s' = .next t' ∧ t'.found = t.found ∧ t'.resOff = t.resOff ∧
        t'.resInfo = t.resInfo) ∧
    (∀ c : Command, sameText s s' → 65536 < s.textBase.toNat + s.textLen.toNat →
      exec (commandInstr c) s = .next { s with illegal := true } ∧
        exec (commandInstr c) s' = .next { s' with illegal := true })

/-- R226: with MAXW > 0 the width of LAYOUT.L never exceeds MAXW; that of LAYOUT.R and LAYOUT.C
never exceeds NATURAL, itself at most MAXW, whenever NATURAL > 0; with MAXW <= 0 LAYOUT.L consumes
the whole text, which the cursor shows, since the model keeps the working registers' last values
after a command (log 14). -/
def Obligations.WidthStaysWithinMaxWidth : Prop :=
  ∀ (s t : State) (al : Align) (tb m : Bool), s.par.wf = true →
    exec (layoutInstr al tb m) s = .next t →
    s.textBase.toNat + s.textLen.toNat ≤ 65536 →
    (0 < s.maxw.toInt → t.natural.toInt ≤ s.maxw.toInt) ∧
      (0 < t.natural.toInt → t.widthUsed.toInt ≤ t.natural.toInt) ∧
      (al = .left → t.widthUsed = t.natural) ∧
      (al = .left → s.maxw.toInt ≤ 0 → t.cur.toNat = s.textLen.toNat)

/-- R213, R227 and R212: the drawing pass of an aligned layout starts at X plus the whole slack
(RIGHT) or its floored half (CENTER), the slack being MAXW - NATURAL, and is bounded by NATURAL. The
statement reads them where the model keeps them, in `x_eff` and `mw_eff` after the command (log 14).
-/
def Obligations.AlignedOriginAndBound : Prop :=
  ∀ (s t : State) (tb m : Bool), s.par.wf = true →
    s.textBase.toNat + s.textLen.toNat ≤ 65536 →
    (exec (.layoutR tb m) s = .next t →
        t.xEff.toInt = s.x.toInt + (s.maxw.toInt - t.natural.toInt) ∧ t.mwEff = t.natural) ∧
      (exec (.layoutC tb m) s = .next t →
        t.xEff.toInt = s.x.toInt + (s.maxw.toInt - t.natural.toInt) / 2 ∧ t.mwEff = t.natural)

/-- R230: the zero-measure corner. When the measuring pass returns 0, the second pass is unbounded:
WIDTH_USED is what LAYOUT.L with MAXW = 0 gives for the text. -/
def Obligations.ZeroMeasureDrawsUnbounded : Prop :=
  ∀ (s t : State) (al : Align) (tb m : Bool), s.par.wf = true → al ≠ .left →
    s.textBase.toNat + s.textLen.toNat ≤ 65536 → exec (layoutInstr al tb m) s = .next t →
    t.natural = 0 →
    ∃ u, exec (.layoutL tb m) { s with maxw := 0 } = .next u ∧ t.widthUsed = u.widthUsed

/-- R231: the trailing-space corner. When the measuring pass returns more than 0, the second pass
returns the same width, or exactly 3 less, the last accepted space. -/
def Obligations.SecondPassLosesAtMostASpace : Prop :=
  ∀ (s t : State) (al : Align) (tb m : Bool), s.par.wf = true → al ≠ .left →
    s.textBase.toNat + s.textLen.toNat ≤ 65536 → exec (layoutInstr al tb m) s = .next t →
    0 < t.natural.toInt →
    t.widthUsed = t.natural ∨ t.widthUsed.toInt = t.natural.toInt - 3

/-- R67, R185: every pixel event a LAYOUT command emits lies on the surface in x, and within the
sixteen rows from Y - 4 in y. -/
def Obligations.EventsLieOnTheSurface : Prop :=
  ∀ (s t : State) (al : Align) (tb m : Bool), s.par.wf = true →
    exec (layoutInstr al tb m) s = .next t →
    ∃ es, t.pixels = s.pixels ++ es ∧ ∀ e ∈ es,
      0 ≤ e.x.toInt ∧ e.x.toInt < s.surfW.toInt ∧
        s.y.toInt - 4 ≤ e.y.toInt ∧ e.y.toInt ≤ s.y.toInt + 11

/-- R225, second half: when no tabular digit is wider than 5 columns (TABULAR is off, or every digit
of the font uses a bitmap of at most 5 columns), every pixel event of a legal LAYOUT command lies
within WIDTH_USED of the drawing pass's origin, which the model keeps in `x_eff` after the command
(log 14). -/
def Obligations.EventsLieWithinTheWidthUsed : Prop :=
  ∀ (s t : State) (rs : List Font.Record) (al : Align) (tb m : Bool),
    s.par.wf = true → Font.records s.par = some rs →
    (tb = true → ∀ r ∈ rs, Ref.digit r = true →
      (Font.recordColumns s.par.col16 (Ref.used s.par rs true r)).length ≤ 5) →
    s.textBase.toNat + s.textLen.toNat ≤ 65536 → exec (layoutInstr al tb m) s = .next t →
    ∃ es, t.pixels = s.pixels ++ es ∧ ∀ e ∈ es,
      t.xEff.toInt ≤ e.x.toInt ∧ e.x.toInt < t.xEff.toInt + t.widthUsed.toInt

/-! ### Invariants of every step -/

/-- Every step keeps the invariant: text memory stays canonical, widths are never negative (R26),
and inside a command the text lies in text memory, the cursor in the text (R31) and the pen between
0 and 128 pixels a byte, never above a positive bound (R191, R226, R232). -/
def Obligations.StepKeepsInvariant : Prop :=
  ∀ s t : State, s.par.wf = true → Inv s → step s = .next t → Inv t

/-- Progress: under `WF_FONT` a step of a state in order is always a next state, idle or inside a
command; no fault, no refusal; and the parameters stay well formed. -/
def Obligations.StepAlwaysProgresses : Prop :=
  ∀ s : State, s.par.wf = true → midCommandOk s →
    ∃ t, step s = .next t ∧ t.par.wf = true
end

