-- ==== Sys2Proof/Laws/State.lean ====
section
/-! SUPPORT. What each named update of the state does to each field, one lemma a field, so that no
later proof unfolds a record update. -/

namespace Sys2Proof.Machine

variable (s : State)

/-! ### placeText -/

@[simp] theorem State.placeText_illegal (a : Half) (b : Byte) : (s.placeText a b).illegal = s.illegal := rfl
@[simp] theorem State.placeText_found (a : Half) (b : Byte) : (s.placeText a b).found = s.found := rfl
@[simp] theorem State.placeText_textBase (a : Half) (b : Byte) : (s.placeText a b).textBase = s.textBase := rfl
@[simp] theorem State.placeText_textLen (a : Half) (b : Byte) : (s.placeText a b).textLen = s.textLen := rfl
@[simp] theorem State.placeText_x (a : Half) (b : Byte) : (s.placeText a b).x = s.x := rfl
@[simp] theorem State.placeText_y (a : Half) (b : Byte) : (s.placeText a b).y = s.y := rfl
@[simp] theorem State.placeText_maxw (a : Half) (b : Byte) : (s.placeText a b).maxw = s.maxw := rfl
@[simp] theorem State.placeText_widthUsed (a : Half) (b : Byte) : (s.placeText a b).widthUsed = s.widthUsed := rfl
@[simp] theorem State.placeText_natural (a : Half) (b : Byte) : (s.placeText a b).natural = s.natural := rfl
@[simp] theorem State.placeText_resOff (a : Half) (b : Byte) : (s.placeText a b).resOff = s.resOff := rfl
@[simp] theorem State.placeText_resInfo (a : Half) (b : Byte) : (s.placeText a b).resInfo = s.resInfo := rfl
@[simp] theorem State.placeText_n (a : Half) (b : Byte) : (s.placeText a b).n = s.n := rfl
@[simp] theorem State.placeText_t (a : Half) (b : Byte) : (s.placeText a b).t = s.t := rfl
@[simp] theorem State.placeText_pd (a : Half) (b : Byte) : (s.placeText a b).pd = s.pd := rfl
@[simp] theorem State.placeText_xEff (a : Half) (b : Byte) : (s.placeText a b).xEff = s.xEff := rfl
@[simp] theorem State.placeText_mwEff (a : Half) (b : Byte) : (s.placeText a b).mwEff = s.mwEff := rfl
@[simp] theorem State.placeText_measEff (a : Half) (b : Byte) : (s.placeText a b).measEff = s.measEff := rfl
@[simp] theorem State.placeText_tab (a : Half) (b : Byte) : (s.placeText a b).tab = s.tab := rfl
@[simp] theorem State.placeText_n1 (a : Half) (b : Byte) : (s.placeText a b).n1 = s.n1 := rfl
@[simp] theorem State.placeText_o (a : Half) (b : Byte) : (s.placeText a b).o = s.o := rfl
@[simp] theorem State.placeText_g (a : Half) (b : Byte) : (s.placeText a b).g = s.g := rfl
@[simp] theorem State.placeText_dg (a : Half) (b : Byte) : (s.placeText a b).dg = s.dg := rfl
@[simp] theorem State.placeText_esc0 (a : Half) (b : Byte) : (s.placeText a b).esc0 = s.esc0 := rfl
@[simp] theorem State.placeText_esc1 (a : Half) (b : Byte) : (s.placeText a b).esc1 = s.esc1 := rfl
@[simp] theorem State.placeText_gap (a : Half) (b : Byte) : (s.placeText a b).gap = s.gap := rfl
@[simp] theorem State.placeText_w (a : Half) (b : Byte) : (s.placeText a b).w = s.w := rfl
@[simp] theorem State.placeText_cur (a : Half) (b : Byte) : (s.placeText a b).cur = s.cur := rfl
@[simp] theorem State.placeText_phase (a : Half) (b : Byte) : (s.placeText a b).phase = s.phase := rfl
@[simp] theorem State.placeText_text (a : Half) (b : Byte) : (s.placeText a b).text = Memory.write s.text a.toNat b := rfl
@[simp] theorem State.placeText_par (a : Half) (b : Byte) : (s.placeText a b).par = s.par := rfl
@[simp] theorem State.placeText_surfW (a : Half) (b : Byte) : (s.placeText a b).surfW = s.surfW := rfl
@[simp] theorem State.placeText_pixels (a : Half) (b : Byte) : (s.placeText a b).pixels = s.pixels := rfl
@[simp] theorem State.placeText_reads (a : Half) (b : Byte) : (s.placeText a b).reads = s.reads := rfl
@[simp] theorem State.placeText_host (a : Half) (b : Byte) : (s.placeText a b).host = s.host := rfl

/-! ### setSurfW -/

@[simp] theorem State.setSurfW_illegal (v : Half) : (s.setSurfW v).illegal = s.illegal := rfl
@[simp] theorem State.setSurfW_found (v : Half) : (s.setSurfW v).found = s.found := rfl
@[simp] theorem State.setSurfW_textBase (v : Half) : (s.setSurfW v).textBase = s.textBase := rfl
@[simp] theorem State.setSurfW_textLen (v : Half) : (s.setSurfW v).textLen = s.textLen := rfl
@[simp] theorem State.setSurfW_x (v : Half) : (s.setSurfW v).x = s.x := rfl
@[simp] theorem State.setSurfW_y (v : Half) : (s.setSurfW v).y = s.y := rfl
@[simp] theorem State.setSurfW_maxw (v : Half) : (s.setSurfW v).maxw = s.maxw := rfl
@[simp] theorem State.setSurfW_widthUsed (v : Half) : (s.setSurfW v).widthUsed = s.widthUsed := rfl
@[simp] theorem State.setSurfW_natural (v : Half) : (s.setSurfW v).natural = s.natural := rfl
@[simp] theorem State.setSurfW_resOff (v : Half) : (s.setSurfW v).resOff = s.resOff := rfl
@[simp] theorem State.setSurfW_resInfo (v : Half) : (s.setSurfW v).resInfo = s.resInfo := rfl
@[simp] theorem State.setSurfW_n (v : Half) : (s.setSurfW v).n = s.n := rfl
@[simp] theorem State.setSurfW_t (v : Half) : (s.setSurfW v).t = s.t := rfl
@[simp] theorem State.setSurfW_pd (v : Half) : (s.setSurfW v).pd = s.pd := rfl
@[simp] theorem State.setSurfW_xEff (v : Half) : (s.setSurfW v).xEff = s.xEff := rfl
@[simp] theorem State.setSurfW_mwEff (v : Half) : (s.setSurfW v).mwEff = s.mwEff := rfl
@[simp] theorem State.setSurfW_measEff (v : Half) : (s.setSurfW v).measEff = s.measEff := rfl
@[simp] theorem State.setSurfW_tab (v : Half) : (s.setSurfW v).tab = s.tab := rfl
@[simp] theorem State.setSurfW_n1 (v : Half) : (s.setSurfW v).n1 = s.n1 := rfl
@[simp] theorem State.setSurfW_o (v : Half) : (s.setSurfW v).o = s.o := rfl
@[simp] theorem State.setSurfW_g (v : Half) : (s.setSurfW v).g = s.g := rfl
@[simp] theorem State.setSurfW_dg (v : Half) : (s.setSurfW v).dg = s.dg := rfl
@[simp] theorem State.setSurfW_esc0 (v : Half) : (s.setSurfW v).esc0 = s.esc0 := rfl
@[simp] theorem State.setSurfW_esc1 (v : Half) : (s.setSurfW v).esc1 = s.esc1 := rfl
@[simp] theorem State.setSurfW_gap (v : Half) : (s.setSurfW v).gap = s.gap := rfl
@[simp] theorem State.setSurfW_w (v : Half) : (s.setSurfW v).w = s.w := rfl
@[simp] theorem State.setSurfW_cur (v : Half) : (s.setSurfW v).cur = s.cur := rfl
@[simp] theorem State.setSurfW_phase (v : Half) : (s.setSurfW v).phase = s.phase := rfl
@[simp] theorem State.setSurfW_text (v : Half) : (s.setSurfW v).text = s.text := rfl
@[simp] theorem State.setSurfW_par (v : Half) : (s.setSurfW v).par = s.par := rfl
@[simp] theorem State.setSurfW_surfW (v : Half) : (s.setSurfW v).surfW = v := rfl
@[simp] theorem State.setSurfW_pixels (v : Half) : (s.setSurfW v).pixels = s.pixels := rfl
@[simp] theorem State.setSurfW_reads (v : Half) : (s.setSurfW v).reads = s.reads := rfl
@[simp] theorem State.setSurfW_host (v : Half) : (s.setSurfW v).host = s.host := rfl

/-! ### regRead -/

@[simp] theorem State.regRead_illegal (k : Nat) : (s.regRead k).illegal = s.illegal := rfl
@[simp] theorem State.regRead_found (k : Nat) : (s.regRead k).found = s.found := rfl
@[simp] theorem State.regRead_textBase (k : Nat) : (s.regRead k).textBase = s.textBase := rfl
@[simp] theorem State.regRead_textLen (k : Nat) : (s.regRead k).textLen = s.textLen := rfl
@[simp] theorem State.regRead_x (k : Nat) : (s.regRead k).x = s.x := rfl
@[simp] theorem State.regRead_y (k : Nat) : (s.regRead k).y = s.y := rfl
@[simp] theorem State.regRead_maxw (k : Nat) : (s.regRead k).maxw = s.maxw := rfl
@[simp] theorem State.regRead_widthUsed (k : Nat) : (s.regRead k).widthUsed = s.widthUsed := rfl
@[simp] theorem State.regRead_natural (k : Nat) : (s.regRead k).natural = s.natural := rfl
@[simp] theorem State.regRead_resOff (k : Nat) : (s.regRead k).resOff = s.resOff := rfl
@[simp] theorem State.regRead_resInfo (k : Nat) : (s.regRead k).resInfo = s.resInfo := rfl
@[simp] theorem State.regRead_n (k : Nat) : (s.regRead k).n = s.n := rfl
@[simp] theorem State.regRead_t (k : Nat) : (s.regRead k).t = s.t := rfl
@[simp] theorem State.regRead_pd (k : Nat) : (s.regRead k).pd = s.pd := rfl
@[simp] theorem State.regRead_xEff (k : Nat) : (s.regRead k).xEff = s.xEff := rfl
@[simp] theorem State.regRead_mwEff (k : Nat) : (s.regRead k).mwEff = s.mwEff := rfl
@[simp] theorem State.regRead_measEff (k : Nat) : (s.regRead k).measEff = s.measEff := rfl
@[simp] theorem State.regRead_tab (k : Nat) : (s.regRead k).tab = s.tab := rfl
@[simp] theorem State.regRead_n1 (k : Nat) : (s.regRead k).n1 = s.n1 := rfl
@[simp] theorem State.regRead_o (k : Nat) : (s.regRead k).o = s.o := rfl
@[simp] theorem State.regRead_g (k : Nat) : (s.regRead k).g = s.g := rfl
@[simp] theorem State.regRead_dg (k : Nat) : (s.regRead k).dg = s.dg := rfl
@[simp] theorem State.regRead_esc0 (k : Nat) : (s.regRead k).esc0 = s.esc0 := rfl
@[simp] theorem State.regRead_esc1 (k : Nat) : (s.regRead k).esc1 = s.esc1 := rfl
@[simp] theorem State.regRead_gap (k : Nat) : (s.regRead k).gap = s.gap := rfl
@[simp] theorem State.regRead_w (k : Nat) : (s.regRead k).w = s.w := rfl
@[simp] theorem State.regRead_cur (k : Nat) : (s.regRead k).cur = s.cur := rfl
@[simp] theorem State.regRead_phase (k : Nat) : (s.regRead k).phase = s.phase := rfl
@[simp] theorem State.regRead_text (k : Nat) : (s.regRead k).text = s.text := rfl
@[simp] theorem State.regRead_par (k : Nat) : (s.regRead k).par = s.par := rfl
@[simp] theorem State.regRead_surfW (k : Nat) : (s.regRead k).surfW = s.surfW := rfl
@[simp] theorem State.regRead_pixels (k : Nat) : (s.regRead k).pixels = s.pixels := rfl
@[simp] theorem State.regRead_reads (k : Nat) : (s.regRead k).reads = s.reads ++ [regValue s k] := rfl
@[simp] theorem State.regRead_host (k : Nat) : (s.regRead k).host = s.host := rfl

/-! ### raiseIllegal -/

@[simp] theorem State.raiseIllegal_illegal : s.raiseIllegal.illegal = true := rfl
@[simp] theorem State.raiseIllegal_found : s.raiseIllegal.found = s.found := rfl
@[simp] theorem State.raiseIllegal_textBase : s.raiseIllegal.textBase = s.textBase := rfl
@[simp] theorem State.raiseIllegal_textLen : s.raiseIllegal.textLen = s.textLen := rfl
@[simp] theorem State.raiseIllegal_x : s.raiseIllegal.x = s.x := rfl
@[simp] theorem State.raiseIllegal_y : s.raiseIllegal.y = s.y := rfl
@[simp] theorem State.raiseIllegal_maxw : s.raiseIllegal.maxw = s.maxw := rfl
@[simp] theorem State.raiseIllegal_widthUsed : s.raiseIllegal.widthUsed = s.widthUsed := rfl
@[simp] theorem State.raiseIllegal_natural : s.raiseIllegal.natural = s.natural := rfl
@[simp] theorem State.raiseIllegal_resOff : s.raiseIllegal.resOff = s.resOff := rfl
@[simp] theorem State.raiseIllegal_resInfo : s.raiseIllegal.resInfo = s.resInfo := rfl
@[simp] theorem State.raiseIllegal_n : s.raiseIllegal.n = s.n := rfl
@[simp] theorem State.raiseIllegal_t : s.raiseIllegal.t = s.t := rfl
@[simp] theorem State.raiseIllegal_pd : s.raiseIllegal.pd = s.pd := rfl
@[simp] theorem State.raiseIllegal_xEff : s.raiseIllegal.xEff = s.xEff := rfl
@[simp] theorem State.raiseIllegal_mwEff : s.raiseIllegal.mwEff = s.mwEff := rfl
@[simp] theorem State.raiseIllegal_measEff : s.raiseIllegal.measEff = s.measEff := rfl
@[simp] theorem State.raiseIllegal_tab : s.raiseIllegal.tab = s.tab := rfl
@[simp] theorem State.raiseIllegal_n1 : s.raiseIllegal.n1 = s.n1 := rfl
@[simp] theorem State.raiseIllegal_o : s.raiseIllegal.o = s.o := rfl
@[simp] theorem State.raiseIllegal_g : s.raiseIllegal.g = s.g := rfl
@[simp] theorem State.raiseIllegal_dg : s.raiseIllegal.dg = s.dg := rfl
@[simp] theorem State.raiseIllegal_esc0 : s.raiseIllegal.esc0 = s.esc0 := rfl
@[simp] theorem State.raiseIllegal_esc1 : s.raiseIllegal.esc1 = s.esc1 := rfl
@[simp] theorem State.raiseIllegal_gap : s.raiseIllegal.gap = s.gap := rfl
@[simp] theorem State.raiseIllegal_w : s.raiseIllegal.w = s.w := rfl
@[simp] theorem State.raiseIllegal_cur : s.raiseIllegal.cur = s.cur := rfl
@[simp] theorem State.raiseIllegal_phase : s.raiseIllegal.phase = .idle := rfl
@[simp] theorem State.raiseIllegal_text : s.raiseIllegal.text = s.text := rfl
@[simp] theorem State.raiseIllegal_par : s.raiseIllegal.par = s.par := rfl
@[simp] theorem State.raiseIllegal_surfW : s.raiseIllegal.surfW = s.surfW := rfl
@[simp] theorem State.raiseIllegal_pixels : s.raiseIllegal.pixels = s.pixels := rfl
@[simp] theorem State.raiseIllegal_reads : s.raiseIllegal.reads = s.reads := rfl
@[simp] theorem State.raiseIllegal_host : s.raiseIllegal.host = s.host := rfl

/-! ### startCommand -/

@[simp] theorem State.startCommand_illegal (c : Command) : (s.startCommand c).illegal = s.illegal := rfl
@[simp] theorem State.startCommand_found (c : Command) : (s.startCommand c).found = s.found := rfl
@[simp] theorem State.startCommand_textBase (c : Command) : (s.startCommand c).textBase = s.textBase := rfl
@[simp] theorem State.startCommand_textLen (c : Command) : (s.startCommand c).textLen = s.textLen := rfl
@[simp] theorem State.startCommand_x (c : Command) : (s.startCommand c).x = s.x := rfl
@[simp] theorem State.startCommand_y (c : Command) : (s.startCommand c).y = s.y := rfl
@[simp] theorem State.startCommand_maxw (c : Command) : (s.startCommand c).maxw = s.maxw := rfl
@[simp] theorem State.startCommand_widthUsed (c : Command) : (s.startCommand c).widthUsed = s.widthUsed := rfl
@[simp] theorem State.startCommand_natural (c : Command) : (s.startCommand c).natural = s.natural := rfl
@[simp] theorem State.startCommand_resOff (c : Command) : (s.startCommand c).resOff = s.resOff := rfl
@[simp] theorem State.startCommand_resInfo (c : Command) : (s.startCommand c).resInfo = s.resInfo := rfl
@[simp] theorem State.startCommand_n (c : Command) : (s.startCommand c).n = s.n := rfl
@[simp] theorem State.startCommand_t (c : Command) : (s.startCommand c).t = s.t := rfl
@[simp] theorem State.startCommand_pd (c : Command) : (s.startCommand c).pd = s.pd := rfl
@[simp] theorem State.startCommand_xEff (c : Command) : (s.startCommand c).xEff = s.xEff := rfl
@[simp] theorem State.startCommand_mwEff (c : Command) : (s.startCommand c).mwEff = s.mwEff := rfl
@[simp] theorem State.startCommand_measEff (c : Command) : (s.startCommand c).measEff = s.measEff := rfl
@[simp] theorem State.startCommand_tab (c : Command) : (s.startCommand c).tab = s.tab := rfl
@[simp] theorem State.startCommand_n1 (c : Command) : (s.startCommand c).n1 = s.n1 := rfl
@[simp] theorem State.startCommand_o (c : Command) : (s.startCommand c).o = s.o := rfl
@[simp] theorem State.startCommand_g (c : Command) : (s.startCommand c).g = s.g := rfl
@[simp] theorem State.startCommand_dg (c : Command) : (s.startCommand c).dg = s.dg := rfl
@[simp] theorem State.startCommand_esc0 (c : Command) : (s.startCommand c).esc0 = s.esc0 := rfl
@[simp] theorem State.startCommand_esc1 (c : Command) : (s.startCommand c).esc1 = s.esc1 := rfl
@[simp] theorem State.startCommand_gap (c : Command) : (s.startCommand c).gap = s.gap := rfl
@[simp] theorem State.startCommand_w (c : Command) : (s.startCommand c).w = s.w := rfl
@[simp] theorem State.startCommand_cur (c : Command) : (s.startCommand c).cur = s.cur := rfl
@[simp] theorem State.startCommand_phase (c : Command) : (s.startCommand c).phase = .check c := rfl
@[simp] theorem State.startCommand_text (c : Command) : (s.startCommand c).text = s.text := rfl
@[simp] theorem State.startCommand_par (c : Command) : (s.startCommand c).par = s.par := rfl
@[simp] theorem State.startCommand_surfW (c : Command) : (s.startCommand c).surfW = s.surfW := rfl
@[simp] theorem State.startCommand_pixels (c : Command) : (s.startCommand c).pixels = s.pixels := rfl
@[simp] theorem State.startCommand_reads (c : Command) : (s.startCommand c).reads = s.reads := rfl
@[simp] theorem State.startCommand_host (c : Command) : (s.startCommand c).host = s.host := rfl

/-! ### startPass -/

@[simp] theorem State.startPass_illegal (ph : Phase) (xe mw : Word) (me : Bool) : (s.startPass ph xe mw me).illegal = s.illegal := rfl
@[simp] theorem State.startPass_found (ph : Phase) (xe mw : Word) (me : Bool) : (s.startPass ph xe mw me).found = s.found := rfl
@[simp] theorem State.startPass_textBase (ph : Phase) (xe mw : Word) (me : Bool) : (s.startPass ph xe mw me).textBase = s.textBase := rfl
@[simp] theorem State.startPass_textLen (ph : Phase) (xe mw : Word) (me : Bool) : (s.startPass ph xe mw me).textLen = s.textLen := rfl
@[simp] theorem State.startPass_x (ph : Phase) (xe mw : Word) (me : Bool) : (s.startPass ph xe mw me).x = s.x := rfl
@[simp] theorem State.startPass_y (ph : Phase) (xe mw : Word) (me : Bool) : (s.startPass ph xe mw me).y = s.y := rfl
@[simp] theorem State.startPass_maxw (ph : Phase) (xe mw : Word) (me : Bool) : (s.startPass ph xe mw me).maxw = s.maxw := rfl
@[simp] theorem State.startPass_widthUsed (ph : Phase) (xe mw : Word) (me : Bool) : (s.startPass ph xe mw me).widthUsed = s.widthUsed := rfl
@[simp] theorem State.startPass_natural (ph : Phase) (xe mw : Word) (me : Bool) : (s.startPass ph xe mw me).natural = s.natural := rfl
@[simp] theorem State.startPass_resOff (ph : Phase) (xe mw : Word) (me : Bool) : (s.startPass ph xe mw me).resOff = s.resOff := rfl
@[simp] theorem State.startPass_resInfo (ph : Phase) (xe mw : Word) (me : Bool) : (s.startPass ph xe mw me).resInfo = s.resInfo := rfl
@[simp] theorem State.startPass_n (ph : Phase) (xe mw : Word) (me : Bool) : (s.startPass ph xe mw me).n = 0 := rfl
@[simp] theorem State.startPass_t (ph : Phase) (xe mw : Word) (me : Bool) : (s.startPass ph xe mw me).t = 0 := rfl
@[simp] theorem State.startPass_pd (ph : Phase) (xe mw : Word) (me : Bool) : (s.startPass ph xe mw me).pd = false := rfl
@[simp] theorem State.startPass_xEff (ph : Phase) (xe mw : Word) (me : Bool) : (s.startPass ph xe mw me).xEff = xe := rfl
@[simp] theorem State.startPass_mwEff (ph : Phase) (xe mw : Word) (me : Bool) : (s.startPass ph xe mw me).mwEff = mw := rfl
@[simp] theorem State.startPass_measEff (ph : Phase) (xe mw : Word) (me : Bool) : (s.startPass ph xe mw me).measEff = me := rfl
@[simp] theorem State.startPass_tab (ph : Phase) (xe mw : Word) (me : Bool) : (s.startPass ph xe mw me).tab = s.tab := rfl
@[simp] theorem State.startPass_n1 (ph : Phase) (xe mw : Word) (me : Bool) : (s.startPass ph xe mw me).n1 = s.n1 := rfl
@[simp] theorem State.startPass_o (ph : Phase) (xe mw : Word) (me : Bool) : (s.startPass ph xe mw me).o = s.o := rfl
@[simp] theorem State.startPass_g (ph : Phase) (xe mw : Word) (me : Bool) : (s.startPass ph xe mw me).g = s.g := rfl
@[simp] theorem State.startPass_dg (ph : Phase) (xe mw : Word) (me : Bool) : (s.startPass ph xe mw me).dg = s.dg := rfl
@[simp] theorem State.startPass_esc0 (ph : Phase) (xe mw : Word) (me : Bool) : (s.startPass ph xe mw me).esc0 = s.esc0 := rfl
@[simp] theorem State.startPass_esc1 (ph : Phase) (xe mw : Word) (me : Bool) : (s.startPass ph xe mw me).esc1 = s.esc1 := rfl
@[simp] theorem State.startPass_gap (ph : Phase) (xe mw : Word) (me : Bool) : (s.startPass ph xe mw me).gap = s.gap := rfl
@[simp] theorem State.startPass_w (ph : Phase) (xe mw : Word) (me : Bool) : (s.startPass ph xe mw me).w = s.w := rfl
@[simp] theorem State.startPass_cur (ph : Phase) (xe mw : Word) (me : Bool) : (s.startPass ph xe mw me).cur = 0 := rfl
@[simp] theorem State.startPass_phase (ph : Phase) (xe mw : Word) (me : Bool) : (s.startPass ph xe mw me).phase = ph := rfl
@[simp] theorem State.startPass_text (ph : Phase) (xe mw : Word) (me : Bool) : (s.startPass ph xe mw me).text = s.text := rfl
@[simp] theorem State.startPass_par (ph : Phase) (xe mw : Word) (me : Bool) : (s.startPass ph xe mw me).par = s.par := rfl
@[simp] theorem State.startPass_surfW (ph : Phase) (xe mw : Word) (me : Bool) : (s.startPass ph xe mw me).surfW = s.surfW := rfl
@[simp] theorem State.startPass_pixels (ph : Phase) (xe mw : Word) (me : Bool) : (s.startPass ph xe mw me).pixels = s.pixels := rfl
@[simp] theorem State.startPass_reads (ph : Phase) (xe mw : Word) (me : Bool) : (s.startPass ph xe mw me).reads = s.reads := rfl
@[simp] theorem State.startPass_host (ph : Phase) (xe mw : Word) (me : Bool) : (s.startPass ph xe mw me).host = s.host := rfl

/-! ### startLayout -/

@[simp] theorem State.startLayout_illegal (ph : Phase) (tb me : Bool) : (s.startLayout ph tb me).illegal = s.illegal := rfl
@[simp] theorem State.startLayout_found (ph : Phase) (tb me : Bool) : (s.startLayout ph tb me).found = s.found := rfl
@[simp] theorem State.startLayout_textBase (ph : Phase) (tb me : Bool) : (s.startLayout ph tb me).textBase = s.textBase := rfl
@[simp] theorem State.startLayout_textLen (ph : Phase) (tb me : Bool) : (s.startLayout ph tb me).textLen = s.textLen := rfl
@[simp] theorem State.startLayout_x (ph : Phase) (tb me : Bool) : (s.startLayout ph tb me).x = s.x := rfl
@[simp] theorem State.startLayout_y (ph : Phase) (tb me : Bool) : (s.startLayout ph tb me).y = s.y := rfl
@[simp] theorem State.startLayout_maxw (ph : Phase) (tb me : Bool) : (s.startLayout ph tb me).maxw = s.maxw := rfl
@[simp] theorem State.startLayout_widthUsed (ph : Phase) (tb me : Bool) : (s.startLayout ph tb me).widthUsed = s.widthUsed := rfl
@[simp] theorem State.startLayout_natural (ph : Phase) (tb me : Bool) : (s.startLayout ph tb me).natural = s.natural := rfl
@[simp] theorem State.startLayout_resOff (ph : Phase) (tb me : Bool) : (s.startLayout ph tb me).resOff = s.resOff := rfl
@[simp] theorem State.startLayout_resInfo (ph : Phase) (tb me : Bool) : (s.startLayout ph tb me).resInfo = s.resInfo := rfl
@[simp] theorem State.startLayout_n (ph : Phase) (tb me : Bool) : (s.startLayout ph tb me).n = 0 := rfl
@[simp] theorem State.startLayout_t (ph : Phase) (tb me : Bool) : (s.startLayout ph tb me).t = 0 := rfl
@[simp] theorem State.startLayout_pd (ph : Phase) (tb me : Bool) : (s.startLayout ph tb me).pd = false := rfl
@[simp] theorem State.startLayout_xEff (ph : Phase) (tb me : Bool) : (s.startLayout ph tb me).xEff = sext32 s.x := rfl
@[simp] theorem State.startLayout_mwEff (ph : Phase) (tb me : Bool) : (s.startLayout ph tb me).mwEff = sext32 s.maxw := rfl
@[simp] theorem State.startLayout_measEff (ph : Phase) (tb me : Bool) : (s.startLayout ph tb me).measEff = me := rfl
@[simp] theorem State.startLayout_tab (ph : Phase) (tb me : Bool) : (s.startLayout ph tb me).tab = tb := rfl
@[simp] theorem State.startLayout_n1 (ph : Phase) (tb me : Bool) : (s.startLayout ph tb me).n1 = s.n1 := rfl
@[simp] theorem State.startLayout_o (ph : Phase) (tb me : Bool) : (s.startLayout ph tb me).o = s.o := rfl
@[simp] theorem State.startLayout_g (ph : Phase) (tb me : Bool) : (s.startLayout ph tb me).g = s.g := rfl
@[simp] theorem State.startLayout_dg (ph : Phase) (tb me : Bool) : (s.startLayout ph tb me).dg = s.dg := rfl
@[simp] theorem State.startLayout_esc0 (ph : Phase) (tb me : Bool) : (s.startLayout ph tb me).esc0 = s.esc0 := rfl
@[simp] theorem State.startLayout_esc1 (ph : Phase) (tb me : Bool) : (s.startLayout ph tb me).esc1 = s.esc1 := rfl
@[simp] theorem State.startLayout_gap (ph : Phase) (tb me : Bool) : (s.startLayout ph tb me).gap = s.gap := rfl
@[simp] theorem State.startLayout_w (ph : Phase) (tb me : Bool) : (s.startLayout ph tb me).w = s.w := rfl
@[simp] theorem State.startLayout_cur (ph : Phase) (tb me : Bool) : (s.startLayout ph tb me).cur = 0 := rfl
@[simp] theorem State.startLayout_phase (ph : Phase) (tb me : Bool) : (s.startLayout ph tb me).phase = ph := rfl
@[simp] theorem State.startLayout_text (ph : Phase) (tb me : Bool) : (s.startLayout ph tb me).text = s.text := rfl
@[simp] theorem State.startLayout_par (ph : Phase) (tb me : Bool) : (s.startLayout ph tb me).par = s.par := rfl
@[simp] theorem State.startLayout_surfW (ph : Phase) (tb me : Bool) : (s.startLayout ph tb me).surfW = s.surfW := rfl
@[simp] theorem State.startLayout_pixels (ph : Phase) (tb me : Bool) : (s.startLayout ph tb me).pixels = s.pixels := rfl
@[simp] theorem State.startLayout_reads (ph : Phase) (tb me : Bool) : (s.startLayout ph tb me).reads = s.reads := rfl
@[simp] theorem State.startLayout_host (ph : Phase) (tb me : Bool) : (s.startLayout ph tb me).host = s.host := rfl

/-! ### startPass2 -/

@[simp] theorem State.startPass2_illegal (a : AlignMode) (m : Bool) : (s.startPass2 a m).illegal = s.illegal := rfl
@[simp] theorem State.startPass2_found (a : AlignMode) (m : Bool) : (s.startPass2 a m).found = s.found := rfl
@[simp] theorem State.startPass2_textBase (a : AlignMode) (m : Bool) : (s.startPass2 a m).textBase = s.textBase := rfl
@[simp] theorem State.startPass2_textLen (a : AlignMode) (m : Bool) : (s.startPass2 a m).textLen = s.textLen := rfl
@[simp] theorem State.startPass2_x (a : AlignMode) (m : Bool) : (s.startPass2 a m).x = s.x := rfl
@[simp] theorem State.startPass2_y (a : AlignMode) (m : Bool) : (s.startPass2 a m).y = s.y := rfl
@[simp] theorem State.startPass2_maxw (a : AlignMode) (m : Bool) : (s.startPass2 a m).maxw = s.maxw := rfl
@[simp] theorem State.startPass2_widthUsed (a : AlignMode) (m : Bool) : (s.startPass2 a m).widthUsed = s.widthUsed := rfl
@[simp] theorem State.startPass2_natural (a : AlignMode) (m : Bool) : (s.startPass2 a m).natural = s.natural := rfl
@[simp] theorem State.startPass2_resOff (a : AlignMode) (m : Bool) : (s.startPass2 a m).resOff = s.resOff := rfl
@[simp] theorem State.startPass2_resInfo (a : AlignMode) (m : Bool) : (s.startPass2 a m).resInfo = s.resInfo := rfl
@[simp] theorem State.startPass2_n (a : AlignMode) (m : Bool) : (s.startPass2 a m).n = 0 := rfl
@[simp] theorem State.startPass2_t (a : AlignMode) (m : Bool) : (s.startPass2 a m).t = 0 := rfl
@[simp] theorem State.startPass2_pd (a : AlignMode) (m : Bool) : (s.startPass2 a m).pd = false := rfl
@[simp] theorem State.startPass2_xEff (a : AlignMode) (m : Bool) : (s.startPass2 a m).xEff = sext32 s.x + alignShift a (sext32 s.maxw - s.n) := rfl
@[simp] theorem State.startPass2_mwEff (a : AlignMode) (m : Bool) : (s.startPass2 a m).mwEff = s.n := rfl
@[simp] theorem State.startPass2_measEff (a : AlignMode) (m : Bool) : (s.startPass2 a m).measEff = m := rfl
@[simp] theorem State.startPass2_tab (a : AlignMode) (m : Bool) : (s.startPass2 a m).tab = s.tab := rfl
@[simp] theorem State.startPass2_n1 (a : AlignMode) (m : Bool) : (s.startPass2 a m).n1 = s.n := rfl
@[simp] theorem State.startPass2_o (a : AlignMode) (m : Bool) : (s.startPass2 a m).o = s.o := rfl
@[simp] theorem State.startPass2_g (a : AlignMode) (m : Bool) : (s.startPass2 a m).g = s.g := rfl
@[simp] theorem State.startPass2_dg (a : AlignMode) (m : Bool) : (s.startPass2 a m).dg = s.dg := rfl
@[simp] theorem State.startPass2_esc0 (a : AlignMode) (m : Bool) : (s.startPass2 a m).esc0 = s.esc0 := rfl
@[simp] theorem State.startPass2_esc1 (a : AlignMode) (m : Bool) : (s.startPass2 a m).esc1 = s.esc1 := rfl
@[simp] theorem State.startPass2_gap (a : AlignMode) (m : Bool) : (s.startPass2 a m).gap = s.gap := rfl
@[simp] theorem State.startPass2_w (a : AlignMode) (m : Bool) : (s.startPass2 a m).w = s.w := rfl
@[simp] theorem State.startPass2_cur (a : AlignMode) (m : Bool) : (s.startPass2 a m).cur = 0 := rfl
@[simp] theorem State.startPass2_phase (a : AlignMode) (m : Bool) : (s.startPass2 a m).phase = .pass2 true := rfl
@[simp] theorem State.startPass2_text (a : AlignMode) (m : Bool) : (s.startPass2 a m).text = s.text := rfl
@[simp] theorem State.startPass2_par (a : AlignMode) (m : Bool) : (s.startPass2 a m).par = s.par := rfl
@[simp] theorem State.startPass2_surfW (a : AlignMode) (m : Bool) : (s.startPass2 a m).surfW = s.surfW := rfl
@[simp] theorem State.startPass2_pixels (a : AlignMode) (m : Bool) : (s.startPass2 a m).pixels = s.pixels := rfl
@[simp] theorem State.startPass2_reads (a : AlignMode) (m : Bool) : (s.startPass2 a m).reads = s.reads := rfl
@[simp] theorem State.startPass2_host (a : AlignMode) (m : Bool) : (s.startPass2 a m).host = s.host := rfl

/-! ### endResolve -/

@[simp] theorem State.endResolve_illegal (r : Option (Nat × Half)) : (s.endResolve r).illegal = s.illegal := rfl
@[simp] theorem State.endResolve_found (r : Option (Nat × Half)) : (s.endResolve r).found = s.found := rfl
@[simp] theorem State.endResolve_textBase (r : Option (Nat × Half)) : (s.endResolve r).textBase = s.textBase := rfl
@[simp] theorem State.endResolve_textLen (r : Option (Nat × Half)) : (s.endResolve r).textLen = s.textLen := rfl
@[simp] theorem State.endResolve_x (r : Option (Nat × Half)) : (s.endResolve r).x = s.x := rfl
@[simp] theorem State.endResolve_y (r : Option (Nat × Half)) : (s.endResolve r).y = s.y := rfl
@[simp] theorem State.endResolve_maxw (r : Option (Nat × Half)) : (s.endResolve r).maxw = s.maxw := rfl
@[simp] theorem State.endResolve_widthUsed (r : Option (Nat × Half)) : (s.endResolve r).widthUsed = s.widthUsed := rfl
@[simp] theorem State.endResolve_natural (r : Option (Nat × Half)) : (s.endResolve r).natural = s.natural := rfl
@[simp] theorem State.endResolve_resOff (r : Option (Nat × Half)) : (s.endResolve r).resOff = s.resOff := rfl
@[simp] theorem State.endResolve_resInfo (r : Option (Nat × Half)) : (s.endResolve r).resInfo = s.resInfo := rfl
@[simp] theorem State.endResolve_n (r : Option (Nat × Half)) : (s.endResolve r).n = s.n := rfl
@[simp] theorem State.endResolve_t (r : Option (Nat × Half)) : (s.endResolve r).t = s.t := rfl
@[simp] theorem State.endResolve_pd (r : Option (Nat × Half)) : (s.endResolve r).pd = s.pd := rfl
@[simp] theorem State.endResolve_xEff (r : Option (Nat × Half)) : (s.endResolve r).xEff = s.xEff := rfl
@[simp] theorem State.endResolve_mwEff (r : Option (Nat × Half)) : (s.endResolve r).mwEff = s.mwEff := rfl
@[simp] theorem State.endResolve_measEff (r : Option (Nat × Half)) : (s.endResolve r).measEff = s.measEff := rfl
@[simp] theorem State.endResolve_tab (r : Option (Nat × Half)) : (s.endResolve r).tab = s.tab := rfl
@[simp] theorem State.endResolve_n1 (r : Option (Nat × Half)) : (s.endResolve r).n1 = s.n1 := rfl
@[simp] theorem State.endResolve_o (r : Option (Nat × Half)) : (s.endResolve r).o = (r.map fun h => BitVec.ofNat 17 h.1).getD s.o := rfl
@[simp] theorem State.endResolve_g (r : Option (Nat × Half)) : (s.endResolve r).g = s.g := rfl
@[simp] theorem State.endResolve_dg (r : Option (Nat × Half)) : (s.endResolve r).dg = s.dg := rfl
@[simp] theorem State.endResolve_esc0 (r : Option (Nat × Half)) : (s.endResolve r).esc0 = s.esc0 := rfl
@[simp] theorem State.endResolve_esc1 (r : Option (Nat × Half)) : (s.endResolve r).esc1 = s.esc1 := rfl
@[simp] theorem State.endResolve_gap (r : Option (Nat × Half)) : (s.endResolve r).gap = s.gap := rfl
@[simp] theorem State.endResolve_w (r : Option (Nat × Half)) : (s.endResolve r).w = s.w := rfl
@[simp] theorem State.endResolve_cur (r : Option (Nat × Half)) : (s.endResolve r).cur = s.cur := rfl
@[simp] theorem State.endResolve_phase (r : Option (Nat × Half)) : (s.endResolve r).phase = .done (.resolve (r.map fun h => (BitVec.ofNat 16 h.1, h.2))) := rfl
@[simp] theorem State.endResolve_text (r : Option (Nat × Half)) : (s.endResolve r).text = s.text := rfl
@[simp] theorem State.endResolve_par (r : Option (Nat × Half)) : (s.endResolve r).par = s.par := rfl
@[simp] theorem State.endResolve_surfW (r : Option (Nat × Half)) : (s.endResolve r).surfW = s.surfW := rfl
@[simp] theorem State.endResolve_pixels (r : Option (Nat × Half)) : (s.endResolve r).pixels = s.pixels := rfl
@[simp] theorem State.endResolve_reads (r : Option (Nat × Half)) : (s.endResolve r).reads = s.reads := rfl
@[simp] theorem State.endResolve_host (r : Option (Nat × Half)) : (s.endResolve r).host = s.host := rfl

/-! ### finishLayout -/

@[simp] theorem State.finishLayout_illegal (a : Bool) : (s.finishLayout a).illegal = s.illegal := rfl
@[simp] theorem State.finishLayout_found (a : Bool) : (s.finishLayout a).found = s.found := rfl
@[simp] theorem State.finishLayout_textBase (a : Bool) : (s.finishLayout a).textBase = s.textBase := rfl
@[simp] theorem State.finishLayout_textLen (a : Bool) : (s.finishLayout a).textLen = s.textLen := rfl
@[simp] theorem State.finishLayout_x (a : Bool) : (s.finishLayout a).x = s.x := rfl
@[simp] theorem State.finishLayout_y (a : Bool) : (s.finishLayout a).y = s.y := rfl
@[simp] theorem State.finishLayout_maxw (a : Bool) : (s.finishLayout a).maxw = s.maxw := rfl
@[simp] theorem State.finishLayout_widthUsed (a : Bool) : (s.finishLayout a).widthUsed = s.n := rfl
@[simp] theorem State.finishLayout_natural (a : Bool) : (s.finishLayout a).natural = if a then s.n1 else s.n := rfl
@[simp] theorem State.finishLayout_resOff (a : Bool) : (s.finishLayout a).resOff = s.resOff := rfl
@[simp] theorem State.finishLayout_resInfo (a : Bool) : (s.finishLayout a).resInfo = s.resInfo := rfl
@[simp] theorem State.finishLayout_n (a : Bool) : (s.finishLayout a).n = s.n := rfl
@[simp] theorem State.finishLayout_t (a : Bool) : (s.finishLayout a).t = s.t := rfl
@[simp] theorem State.finishLayout_pd (a : Bool) : (s.finishLayout a).pd = s.pd := rfl
@[simp] theorem State.finishLayout_xEff (a : Bool) : (s.finishLayout a).xEff = s.xEff := rfl
@[simp] theorem State.finishLayout_mwEff (a : Bool) : (s.finishLayout a).mwEff = s.mwEff := rfl
@[simp] theorem State.finishLayout_measEff (a : Bool) : (s.finishLayout a).measEff = s.measEff := rfl
@[simp] theorem State.finishLayout_tab (a : Bool) : (s.finishLayout a).tab = s.tab := rfl
@[simp] theorem State.finishLayout_n1 (a : Bool) : (s.finishLayout a).n1 = s.n1 := rfl
@[simp] theorem State.finishLayout_o (a : Bool) : (s.finishLayout a).o = s.o := rfl
@[simp] theorem State.finishLayout_g (a : Bool) : (s.finishLayout a).g = s.g := rfl
@[simp] theorem State.finishLayout_dg (a : Bool) : (s.finishLayout a).dg = s.dg := rfl
@[simp] theorem State.finishLayout_esc0 (a : Bool) : (s.finishLayout a).esc0 = s.esc0 := rfl
@[simp] theorem State.finishLayout_esc1 (a : Bool) : (s.finishLayout a).esc1 = s.esc1 := rfl
@[simp] theorem State.finishLayout_gap (a : Bool) : (s.finishLayout a).gap = s.gap := rfl
@[simp] theorem State.finishLayout_w (a : Bool) : (s.finishLayout a).w = s.w := rfl
@[simp] theorem State.finishLayout_cur (a : Bool) : (s.finishLayout a).cur = s.cur := rfl
@[simp] theorem State.finishLayout_phase (a : Bool) : (s.finishLayout a).phase = .idle := rfl
@[simp] theorem State.finishLayout_text (a : Bool) : (s.finishLayout a).text = s.text := rfl
@[simp] theorem State.finishLayout_par (a : Bool) : (s.finishLayout a).par = s.par := rfl
@[simp] theorem State.finishLayout_surfW (a : Bool) : (s.finishLayout a).surfW = s.surfW := rfl
@[simp] theorem State.finishLayout_pixels (a : Bool) : (s.finishLayout a).pixels = s.pixels := rfl
@[simp] theorem State.finishLayout_reads (a : Bool) : (s.finishLayout a).reads = s.reads := rfl
@[simp] theorem State.finishLayout_host (a : Bool) : (s.finishLayout a).host = s.host := rfl

/-! ### finishResolve -/

@[simp] theorem State.finishResolve_illegal (h : Option (Half × Half)) : (s.finishResolve h).illegal = s.illegal := rfl
@[simp] theorem State.finishResolve_found (h : Option (Half × Half)) : (s.finishResolve h).found = h.isSome := rfl
@[simp] theorem State.finishResolve_textBase (h : Option (Half × Half)) : (s.finishResolve h).textBase = s.textBase := rfl
@[simp] theorem State.finishResolve_textLen (h : Option (Half × Half)) : (s.finishResolve h).textLen = s.textLen := rfl
@[simp] theorem State.finishResolve_x (h : Option (Half × Half)) : (s.finishResolve h).x = s.x := rfl
@[simp] theorem State.finishResolve_y (h : Option (Half × Half)) : (s.finishResolve h).y = s.y := rfl
@[simp] theorem State.finishResolve_maxw (h : Option (Half × Half)) : (s.finishResolve h).maxw = s.maxw := rfl
@[simp] theorem State.finishResolve_widthUsed (h : Option (Half × Half)) : (s.finishResolve h).widthUsed = s.widthUsed := rfl
@[simp] theorem State.finishResolve_natural (h : Option (Half × Half)) : (s.finishResolve h).natural = s.natural := rfl
@[simp] theorem State.finishResolve_resOff (h : Option (Half × Half)) : (s.finishResolve h).resOff = (h.map (·.1)).getD 0xFFFF := rfl
@[simp] theorem State.finishResolve_resInfo (h : Option (Half × Half)) : (s.finishResolve h).resInfo = (h.map (·.2)).getD 0 := rfl
@[simp] theorem State.finishResolve_n (h : Option (Half × Half)) : (s.finishResolve h).n = s.n := rfl
@[simp] theorem State.finishResolve_t (h : Option (Half × Half)) : (s.finishResolve h).t = s.t := rfl
@[simp] theorem State.finishResolve_pd (h : Option (Half × Half)) : (s.finishResolve h).pd = s.pd := rfl
@[simp] theorem State.finishResolve_xEff (h : Option (Half × Half)) : (s.finishResolve h).xEff = s.xEff := rfl
@[simp] theorem State.finishResolve_mwEff (h : Option (Half × Half)) : (s.finishResolve h).mwEff = s.mwEff := rfl
@[simp] theorem State.finishResolve_measEff (h : Option (Half × Half)) : (s.finishResolve h).measEff = s.measEff := rfl
@[simp] theorem State.finishResolve_tab (h : Option (Half × Half)) : (s.finishResolve h).tab = s.tab := rfl
@[simp] theorem State.finishResolve_n1 (h : Option (Half × Half)) : (s.finishResolve h).n1 = s.n1 := rfl
@[simp] theorem State.finishResolve_o (h : Option (Half × Half)) : (s.finishResolve h).o = s.o := rfl
@[simp] theorem State.finishResolve_g (h : Option (Half × Half)) : (s.finishResolve h).g = s.g := rfl
@[simp] theorem State.finishResolve_dg (h : Option (Half × Half)) : (s.finishResolve h).dg = s.dg := rfl
@[simp] theorem State.finishResolve_esc0 (h : Option (Half × Half)) : (s.finishResolve h).esc0 = s.esc0 := rfl
@[simp] theorem State.finishResolve_esc1 (h : Option (Half × Half)) : (s.finishResolve h).esc1 = s.esc1 := rfl
@[simp] theorem State.finishResolve_gap (h : Option (Half × Half)) : (s.finishResolve h).gap = s.gap := rfl
@[simp] theorem State.finishResolve_w (h : Option (Half × Half)) : (s.finishResolve h).w = s.w := rfl
@[simp] theorem State.finishResolve_cur (h : Option (Half × Half)) : (s.finishResolve h).cur = s.cur := rfl
@[simp] theorem State.finishResolve_phase (h : Option (Half × Half)) : (s.finishResolve h).phase = .idle := rfl
@[simp] theorem State.finishResolve_text (h : Option (Half × Half)) : (s.finishResolve h).text = s.text := rfl
@[simp] theorem State.finishResolve_par (h : Option (Half × Half)) : (s.finishResolve h).par = s.par := rfl
@[simp] theorem State.finishResolve_surfW (h : Option (Half × Half)) : (s.finishResolve h).surfW = s.surfW := rfl
@[simp] theorem State.finishResolve_pixels (h : Option (Half × Half)) : (s.finishResolve h).pixels = s.pixels := rfl
@[simp] theorem State.finishResolve_reads (h : Option (Half × Half)) : (s.finishResolve h).reads = s.reads := rfl
@[simp] theorem State.finishResolve_host (h : Option (Half × Half)) : (s.finishResolve h).host = s.host := rfl

/-! ### advance -/

@[simp] theorem State.advance_illegal (k : Offset) : (s.advance k).illegal = s.illegal := rfl
@[simp] theorem State.advance_found (k : Offset) : (s.advance k).found = s.found := rfl
@[simp] theorem State.advance_textBase (k : Offset) : (s.advance k).textBase = s.textBase := rfl
@[simp] theorem State.advance_textLen (k : Offset) : (s.advance k).textLen = s.textLen := rfl
@[simp] theorem State.advance_x (k : Offset) : (s.advance k).x = s.x := rfl
@[simp] theorem State.advance_y (k : Offset) : (s.advance k).y = s.y := rfl
@[simp] theorem State.advance_maxw (k : Offset) : (s.advance k).maxw = s.maxw := rfl
@[simp] theorem State.advance_widthUsed (k : Offset) : (s.advance k).widthUsed = s.widthUsed := rfl
@[simp] theorem State.advance_natural (k : Offset) : (s.advance k).natural = s.natural := rfl
@[simp] theorem State.advance_resOff (k : Offset) : (s.advance k).resOff = s.resOff := rfl
@[simp] theorem State.advance_resInfo (k : Offset) : (s.advance k).resInfo = s.resInfo := rfl
@[simp] theorem State.advance_n (k : Offset) : (s.advance k).n = s.n := rfl
@[simp] theorem State.advance_t (k : Offset) : (s.advance k).t = s.t := rfl
@[simp] theorem State.advance_pd (k : Offset) : (s.advance k).pd = s.pd := rfl
@[simp] theorem State.advance_xEff (k : Offset) : (s.advance k).xEff = s.xEff := rfl
@[simp] theorem State.advance_mwEff (k : Offset) : (s.advance k).mwEff = s.mwEff := rfl
@[simp] theorem State.advance_measEff (k : Offset) : (s.advance k).measEff = s.measEff := rfl
@[simp] theorem State.advance_tab (k : Offset) : (s.advance k).tab = s.tab := rfl
@[simp] theorem State.advance_n1 (k : Offset) : (s.advance k).n1 = s.n1 := rfl
@[simp] theorem State.advance_o (k : Offset) : (s.advance k).o = s.o := rfl
@[simp] theorem State.advance_g (k : Offset) : (s.advance k).g = s.g := rfl
@[simp] theorem State.advance_dg (k : Offset) : (s.advance k).dg = s.dg := rfl
@[simp] theorem State.advance_esc0 (k : Offset) : (s.advance k).esc0 = s.esc0 := rfl
@[simp] theorem State.advance_esc1 (k : Offset) : (s.advance k).esc1 = s.esc1 := rfl
@[simp] theorem State.advance_gap (k : Offset) : (s.advance k).gap = s.gap := rfl
@[simp] theorem State.advance_w (k : Offset) : (s.advance k).w = s.w := rfl
@[simp] theorem State.advance_cur (k : Offset) : (s.advance k).cur = s.cur + k := rfl
@[simp] theorem State.advance_phase (k : Offset) : (s.advance k).phase = s.phase := rfl
@[simp] theorem State.advance_text (k : Offset) : (s.advance k).text = s.text := rfl
@[simp] theorem State.advance_par (k : Offset) : (s.advance k).par = s.par := rfl
@[simp] theorem State.advance_surfW (k : Offset) : (s.advance k).surfW = s.surfW := rfl
@[simp] theorem State.advance_pixels (k : Offset) : (s.advance k).pixels = s.pixels := rfl
@[simp] theorem State.advance_reads (k : Offset) : (s.advance k).reads = s.reads := rfl
@[simp] theorem State.advance_host (k : Offset) : (s.advance k).host = s.host := rfl

/-! ### emit -/

@[simp] theorem State.emit_illegal (ps : List Pixel) : (s.emit ps).illegal = s.illegal := rfl
@[simp] theorem State.emit_found (ps : List Pixel) : (s.emit ps).found = s.found := rfl
@[simp] theorem State.emit_textBase (ps : List Pixel) : (s.emit ps).textBase = s.textBase := rfl
@[simp] theorem State.emit_textLen (ps : List Pixel) : (s.emit ps).textLen = s.textLen := rfl
@[simp] theorem State.emit_x (ps : List Pixel) : (s.emit ps).x = s.x := rfl
@[simp] theorem State.emit_y (ps : List Pixel) : (s.emit ps).y = s.y := rfl
@[simp] theorem State.emit_maxw (ps : List Pixel) : (s.emit ps).maxw = s.maxw := rfl
@[simp] theorem State.emit_widthUsed (ps : List Pixel) : (s.emit ps).widthUsed = s.widthUsed := rfl
@[simp] theorem State.emit_natural (ps : List Pixel) : (s.emit ps).natural = s.natural := rfl
@[simp] theorem State.emit_resOff (ps : List Pixel) : (s.emit ps).resOff = s.resOff := rfl
@[simp] theorem State.emit_resInfo (ps : List Pixel) : (s.emit ps).resInfo = s.resInfo := rfl
@[simp] theorem State.emit_n (ps : List Pixel) : (s.emit ps).n = s.n := rfl
@[simp] theorem State.emit_t (ps : List Pixel) : (s.emit ps).t = s.t := rfl
@[simp] theorem State.emit_pd (ps : List Pixel) : (s.emit ps).pd = s.pd := rfl
@[simp] theorem State.emit_xEff (ps : List Pixel) : (s.emit ps).xEff = s.xEff := rfl
@[simp] theorem State.emit_mwEff (ps : List Pixel) : (s.emit ps).mwEff = s.mwEff := rfl
@[simp] theorem State.emit_measEff (ps : List Pixel) : (s.emit ps).measEff = s.measEff := rfl
@[simp] theorem State.emit_tab (ps : List Pixel) : (s.emit ps).tab = s.tab := rfl
@[simp] theorem State.emit_n1 (ps : List Pixel) : (s.emit ps).n1 = s.n1 := rfl
@[simp] theorem State.emit_o (ps : List Pixel) : (s.emit ps).o = s.o := rfl
@[simp] theorem State.emit_g (ps : List Pixel) : (s.emit ps).g = s.g := rfl
@[simp] theorem State.emit_dg (ps : List Pixel) : (s.emit ps).dg = s.dg := rfl
@[simp] theorem State.emit_esc0 (ps : List Pixel) : (s.emit ps).esc0 = s.esc0 := rfl
@[simp] theorem State.emit_esc1 (ps : List Pixel) : (s.emit ps).esc1 = s.esc1 := rfl
@[simp] theorem State.emit_gap (ps : List Pixel) : (s.emit ps).gap = s.gap := rfl
@[simp] theorem State.emit_w (ps : List Pixel) : (s.emit ps).w = s.w := rfl
@[simp] theorem State.emit_cur (ps : List Pixel) : (s.emit ps).cur = s.cur := rfl
@[simp] theorem State.emit_phase (ps : List Pixel) : (s.emit ps).phase = s.phase := rfl
@[simp] theorem State.emit_text (ps : List Pixel) : (s.emit ps).text = s.text := rfl
@[simp] theorem State.emit_par (ps : List Pixel) : (s.emit ps).par = s.par := rfl
@[simp] theorem State.emit_surfW (ps : List Pixel) : (s.emit ps).surfW = s.surfW := rfl
@[simp] theorem State.emit_pixels (ps : List Pixel) : (s.emit ps).pixels = s.pixels ++ (if s.measEff then [] else ps) := rfl
@[simp] theorem State.emit_reads (ps : List Pixel) : (s.emit ps).reads = s.reads := rfl
@[simp] theorem State.emit_host (ps : List Pixel) : (s.emit ps).host = s.host := rfl

/-! ### endPass: only the phase changes (R250) -/

@[simp] theorem State.endPass_illegal : s.endPass.illegal = s.illegal := by
  unfold State.endPass; split <;> rfl
@[simp] theorem State.endPass_found : s.endPass.found = s.found := by
  unfold State.endPass; split <;> rfl
@[simp] theorem State.endPass_textBase : s.endPass.textBase = s.textBase := by
  unfold State.endPass; split <;> rfl
@[simp] theorem State.endPass_textLen : s.endPass.textLen = s.textLen := by
  unfold State.endPass; split <;> rfl
@[simp] theorem State.endPass_x : s.endPass.x = s.x := by
  unfold State.endPass; split <;> rfl
@[simp] theorem State.endPass_y : s.endPass.y = s.y := by
  unfold State.endPass; split <;> rfl
@[simp] theorem State.endPass_maxw : s.endPass.maxw = s.maxw := by
  unfold State.endPass; split <;> rfl
@[simp] theorem State.endPass_widthUsed : s.endPass.widthUsed = s.widthUsed := by
  unfold State.endPass; split <;> rfl
@[simp] theorem State.endPass_natural : s.endPass.natural = s.natural := by
  unfold State.endPass; split <;> rfl
@[simp] theorem State.endPass_resOff : s.endPass.resOff = s.resOff := by
  unfold State.endPass; split <;> rfl
@[simp] theorem State.endPass_resInfo : s.endPass.resInfo = s.resInfo := by
  unfold State.endPass; split <;> rfl
@[simp] theorem State.endPass_n : s.endPass.n = s.n := by
  unfold State.endPass; split <;> rfl
@[simp] theorem State.endPass_t : s.endPass.t = s.t := by
  unfold State.endPass; split <;> rfl
@[simp] theorem State.endPass_pd : s.endPass.pd = s.pd := by
  unfold State.endPass; split <;> rfl
@[simp] theorem State.endPass_xEff : s.endPass.xEff = s.xEff := by
  unfold State.endPass; split <;> rfl
@[simp] theorem State.endPass_mwEff : s.endPass.mwEff = s.mwEff := by
  unfold State.endPass; split <;> rfl
@[simp] theorem State.endPass_measEff : s.endPass.measEff = s.measEff := by
  unfold State.endPass; split <;> rfl
@[simp] theorem State.endPass_tab : s.endPass.tab = s.tab := by
  unfold State.endPass; split <;> rfl
@[simp] theorem State.endPass_n1 : s.endPass.n1 = s.n1 := by
  unfold State.endPass; split <;> rfl
@[simp] theorem State.endPass_o : s.endPass.o = s.o := by
  unfold State.endPass; split <;> rfl
@[simp] theorem State.endPass_g : s.endPass.g = s.g := by
  unfold State.endPass; split <;> rfl
@[simp] theorem State.endPass_dg : s.endPass.dg = s.dg := by
  unfold State.endPass; split <;> rfl
@[simp] theorem State.endPass_esc0 : s.endPass.esc0 = s.esc0 := by
  unfold State.endPass; split <;> rfl
@[simp] theorem State.endPass_esc1 : s.endPass.esc1 = s.esc1 := by
  unfold State.endPass; split <;> rfl
@[simp] theorem State.endPass_gap : s.endPass.gap = s.gap := by
  unfold State.endPass; split <;> rfl
@[simp] theorem State.endPass_w : s.endPass.w = s.w := by
  unfold State.endPass; split <;> rfl
@[simp] theorem State.endPass_cur : s.endPass.cur = s.cur := by
  unfold State.endPass; split <;> rfl
@[simp] theorem State.endPass_phase : s.endPass.phase = afterPass s.phase := by
  unfold State.endPass; split <;> simp_all [afterPass]
@[simp] theorem State.endPass_text : s.endPass.text = s.text := by
  unfold State.endPass; split <;> rfl
@[simp] theorem State.endPass_par : s.endPass.par = s.par := by
  unfold State.endPass; split <;> rfl
@[simp] theorem State.endPass_surfW : s.endPass.surfW = s.surfW := by
  unfold State.endPass; split <;> rfl
@[simp] theorem State.endPass_pixels : s.endPass.pixels = s.pixels := by
  unfold State.endPass; split <;> rfl
@[simp] theorem State.endPass_reads : s.endPass.reads = s.reads := by
  unfold State.endPass; split <;> rfl
@[simp] theorem State.endPass_host : s.endPass.host = s.host := by
  unfold State.endPass; split <;> rfl

/-! ### regWrite: only the five operand registers can change (R38 to R40) -/

@[simp] theorem State.regWrite_illegal (k : Nat) (v : Word) : (s.regWrite k v).illegal = s.illegal := by
  unfold State.regWrite; split <;> rfl
@[simp] theorem State.regWrite_found (k : Nat) (v : Word) : (s.regWrite k v).found = s.found := by
  unfold State.regWrite; split <;> rfl
@[simp] theorem State.regWrite_textBase (k : Nat) (v : Word) :
    (s.regWrite k v).textBase = if k = 2 then v.setWidth 16 else s.textBase := by
  unfold State.regWrite; split <;> simp_all
@[simp] theorem State.regWrite_textLen (k : Nat) (v : Word) :
    (s.regWrite k v).textLen = if k = 3 then v.setWidth 16 else s.textLen := by
  unfold State.regWrite; split <;> simp_all
@[simp] theorem State.regWrite_x (k : Nat) (v : Word) :
    (s.regWrite k v).x = if k = 4 then v.setWidth 16 else s.x := by
  unfold State.regWrite; split <;> simp_all
@[simp] theorem State.regWrite_y (k : Nat) (v : Word) :
    (s.regWrite k v).y = if k = 5 then v.setWidth 16 else s.y := by
  unfold State.regWrite; split <;> simp_all
@[simp] theorem State.regWrite_maxw (k : Nat) (v : Word) :
    (s.regWrite k v).maxw = if k = 6 then v.setWidth 16 else s.maxw := by
  unfold State.regWrite; split <;> simp_all
@[simp] theorem State.regWrite_widthUsed (k : Nat) (v : Word) : (s.regWrite k v).widthUsed = s.widthUsed := by
  unfold State.regWrite; split <;> rfl
@[simp] theorem State.regWrite_natural (k : Nat) (v : Word) : (s.regWrite k v).natural = s.natural := by
  unfold State.regWrite; split <;> rfl
@[simp] theorem State.regWrite_resOff (k : Nat) (v : Word) : (s.regWrite k v).resOff = s.resOff := by
  unfold State.regWrite; split <;> rfl
@[simp] theorem State.regWrite_resInfo (k : Nat) (v : Word) : (s.regWrite k v).resInfo = s.resInfo := by
  unfold State.regWrite; split <;> rfl
@[simp] theorem State.regWrite_n (k : Nat) (v : Word) : (s.regWrite k v).n = s.n := by
  unfold State.regWrite; split <;> rfl
@[simp] theorem State.regWrite_t (k : Nat) (v : Word) : (s.regWrite k v).t = s.t := by
  unfold State.regWrite; split <;> rfl
@[simp] theorem State.regWrite_pd (k : Nat) (v : Word) : (s.regWrite k v).pd = s.pd := by
  unfold State.regWrite; split <;> rfl
@[simp] theorem State.regWrite_xEff (k : Nat) (v : Word) : (s.regWrite k v).xEff = s.xEff := by
  unfold State.regWrite; split <;> rfl
@[simp] theorem State.regWrite_mwEff (k : Nat) (v : Word) : (s.regWrite k v).mwEff = s.mwEff := by
  unfold State.regWrite; split <;> rfl
@[simp] theorem State.regWrite_measEff (k : Nat) (v : Word) : (s.regWrite k v).measEff = s.measEff := by
  unfold State.regWrite; split <;> rfl
@[simp] theorem State.regWrite_tab (k : Nat) (v : Word) : (s.regWrite k v).tab = s.tab := by
  unfold State.regWrite; split <;> rfl
@[simp] theorem State.regWrite_n1 (k : Nat) (v : Word) : (s.regWrite k v).n1 = s.n1 := by
  unfold State.regWrite; split <;> rfl
@[simp] theorem State.regWrite_o (k : Nat) (v : Word) : (s.regWrite k v).o = s.o := by
  unfold State.regWrite; split <;> rfl
@[simp] theorem State.regWrite_g (k : Nat) (v : Word) : (s.regWrite k v).g = s.g := by
  unfold State.regWrite; split <;> rfl
@[simp] theorem State.regWrite_dg (k : Nat) (v : Word) : (s.regWrite k v).dg = s.dg := by
  unfold State.regWrite; split <;> rfl
@[simp] theorem State.regWrite_esc0 (k : Nat) (v : Word) : (s.regWrite k v).esc0 = s.esc0 := by
  unfold State.regWrite; split <;> rfl
@[simp] theorem State.regWrite_esc1 (k : Nat) (v : Word) : (s.regWrite k v).esc1 = s.esc1 := by
  unfold State.regWrite; split <;> rfl
@[simp] theorem State.regWrite_gap (k : Nat) (v : Word) : (s.regWrite k v).gap = s.gap := by
  unfold State.regWrite; split <;> rfl
@[simp] theorem State.regWrite_w (k : Nat) (v : Word) : (s.regWrite k v).w = s.w := by
  unfold State.regWrite; split <;> rfl
@[simp] theorem State.regWrite_cur (k : Nat) (v : Word) : (s.regWrite k v).cur = s.cur := by
  unfold State.regWrite; split <;> rfl
@[simp] theorem State.regWrite_phase (k : Nat) (v : Word) : (s.regWrite k v).phase = s.phase := by
  unfold State.regWrite; split <;> rfl
@[simp] theorem State.regWrite_text (k : Nat) (v : Word) : (s.regWrite k v).text = s.text := by
  unfold State.regWrite; split <;> rfl
@[simp] theorem State.regWrite_par (k : Nat) (v : Word) : (s.regWrite k v).par = s.par := by
  unfold State.regWrite; split <;> rfl
@[simp] theorem State.regWrite_surfW (k : Nat) (v : Word) : (s.regWrite k v).surfW = s.surfW := by
  unfold State.regWrite; split <;> rfl
@[simp] theorem State.regWrite_pixels (k : Nat) (v : Word) : (s.regWrite k v).pixels = s.pixels := by
  unfold State.regWrite; split <;> rfl
@[simp] theorem State.regWrite_reads (k : Nat) (v : Word) : (s.regWrite k v).reads = s.reads := by
  unfold State.regWrite; split <;> rfl
@[simp] theorem State.regWrite_host (k : Nat) (v : Word) : (s.regWrite k v).host = s.host := by
  unfold State.regWrite; split <;> rfl

/-! ### writeOperands: a wrapper's five writes (R119) -/

@[simp] theorem State.writeOperands_illegal (base len x y w : Word) :
    (s.writeOperands base len x y w).illegal = s.illegal := by simp [State.writeOperands]
@[simp] theorem State.writeOperands_found (base len x y w : Word) :
    (s.writeOperands base len x y w).found = s.found := by simp [State.writeOperands]
@[simp] theorem State.writeOperands_textBase (base len x y w : Word) :
    (s.writeOperands base len x y w).textBase = base.setWidth 16 := by simp [State.writeOperands]
@[simp] theorem State.writeOperands_textLen (base len x y w : Word) :
    (s.writeOperands base len x y w).textLen = len.setWidth 16 := by simp [State.writeOperands]
@[simp] theorem State.writeOperands_x (base len x y w : Word) :
    (s.writeOperands base len x y w).x = x.setWidth 16 := by simp [State.writeOperands]
@[simp] theorem State.writeOperands_y (base len x y w : Word) :
    (s.writeOperands base len x y w).y = y.setWidth 16 := by simp [State.writeOperands]
@[simp] theorem State.writeOperands_maxw (base len x y w : Word) :
    (s.writeOperands base len x y w).maxw = w.setWidth 16 := by simp [State.writeOperands]
@[simp] theorem State.writeOperands_widthUsed (base len x y w : Word) :
    (s.writeOperands base len x y w).widthUsed = s.widthUsed := by simp [State.writeOperands]
@[simp] theorem State.writeOperands_natural (base len x y w : Word) :
    (s.writeOperands base len x y w).natural = s.natural := by simp [State.writeOperands]
@[simp] theorem State.writeOperands_resOff (base len x y w : Word) :
    (s.writeOperands base len x y w).resOff = s.resOff := by simp [State.writeOperands]
@[simp] theorem State.writeOperands_resInfo (base len x y w : Word) :
    (s.writeOperands base len x y w).resInfo = s.resInfo := by simp [State.writeOperands]
@[simp] theorem State.writeOperands_n (base len x y w : Word) :
    (s.writeOperands base len x y w).n = s.n := by simp [State.writeOperands]
@[simp] theorem State.writeOperands_t (base len x y w : Word) :
    (s.writeOperands base len x y w).t = s.t := by simp [State.writeOperands]
@[simp] theorem State.writeOperands_pd (base len x y w : Word) :
    (s.writeOperands base len x y w).pd = s.pd := by simp [State.writeOperands]
@[simp] theorem State.writeOperands_xEff (base len x y w : Word) :
    (s.writeOperands base len x y w).xEff = s.xEff := by simp [State.writeOperands]
@[simp] theorem State.writeOperands_mwEff (base len x y w : Word) :
    (s.writeOperands base len x y w).mwEff = s.mwEff := by simp [State.writeOperands]
@[simp] theorem State.writeOperands_measEff (base len x y w : Word) :
    (s.writeOperands base len x y w).measEff = s.measEff := by simp [State.writeOperands]
@[simp] theorem State.writeOperands_tab (base len x y w : Word) :
    (s.writeOperands base len x y w).tab = s.tab := by simp [State.writeOperands]
@[simp] theorem State.writeOperands_n1 (base len x y w : Word) :
    (s.writeOperands base len x y w).n1 = s.n1 := by simp [State.writeOperands]
@[simp] theorem State.writeOperands_o (base len x y w : Word) :
    (s.writeOperands base len x y w).o = s.o := by simp [State.writeOperands]
@[simp] theorem State.writeOperands_g (base len x y w : Word) :
    (s.writeOperands base len x y w).g = s.g := by simp [State.writeOperands]
@[simp] theorem State.writeOperands_dg (base len x y w : Word) :
    (s.writeOperands base len x y w).dg = s.dg := by simp [State.writeOperands]
@[simp] theorem State.writeOperands_esc0 (base len x y w : Word) :
    (s.writeOperands base len x y w).esc0 = s.esc0 := by simp [State.writeOperands]
@[simp] theorem State.writeOperands_esc1 (base len x y w : Word) :
    (s.writeOperands base len x y w).esc1 = s.esc1 := by simp [State.writeOperands]
@[simp] theorem State.writeOperands_gap (base len x y w : Word) :
    (s.writeOperands base len x y w).gap = s.gap := by simp [State.writeOperands]
@[simp] theorem State.writeOperands_w (base len x y w : Word) :
    (s.writeOperands base len x y w).w = s.w := by simp [State.writeOperands]
@[simp] theorem State.writeOperands_cur (base len x y w : Word) :
    (s.writeOperands base len x y w).cur = s.cur := by simp [State.writeOperands]
@[simp] theorem State.writeOperands_phase (base len x y w : Word) :
    (s.writeOperands base len x y w).phase = s.phase := by simp [State.writeOperands]
@[simp] theorem State.writeOperands_text (base len x y w : Word) :
    (s.writeOperands base len x y w).text = s.text := by simp [State.writeOperands]
@[simp] theorem State.writeOperands_par (base len x y w : Word) :
    (s.writeOperands base len x y w).par = s.par := by simp [State.writeOperands]
@[simp] theorem State.writeOperands_surfW (base len x y w : Word) :
    (s.writeOperands base len x y w).surfW = s.surfW := by simp [State.writeOperands]
@[simp] theorem State.writeOperands_pixels (base len x y w : Word) :
    (s.writeOperands base len x y w).pixels = s.pixels := by simp [State.writeOperands]
@[simp] theorem State.writeOperands_reads (base len x y w : Word) :
    (s.writeOperands base len x y w).reads = s.reads := by simp [State.writeOperands]
@[simp] theorem State.writeOperands_host (base len x y w : Word) :
    (s.writeOperands base len x y w).host = s.host := by simp [State.writeOperands]

end Sys2Proof.Machine
end

