-- ==== Sys2Proof/Laws/Engine.lean ====
section
/-! SUPPORT. What each shared operation of the engine can do, said once: the inversion of the token
fetch, of each token, of a tick, of a command's run and of a step. -/

namespace Sys2Proof.Machine

open Host (Outcome)

/-! ### Fetch -/

/-- A fetched token stands at the cursor of a running pass (R172, R173). -/
theorem fetch_some {s : State} {i : Instr} (h : fetch s = .next (some i)) :
    s.phase.inPass = true ∧ textWraps s = false ∧
      ∃ c cs, remainingText s = c :: cs ∧ decodeToken s.par c cs = .ok i := by
  unfold fetch at h
  split at h
  · rename_i hp
    split at h
    · exact absurd h (by simp)
    · rename_i hw
      split at h
      · exact absurd h (by simp)
      · rename_i c cs hr
        split at h
        · rename_i j hj
          simp only [Outcome.next.injEq, Option.some.injEq] at h
          subst h
          exact ⟨hp, by simpa using hw, c, cs, hr, hj⟩
        · exact absurd h (by simp)
  · exact absurd h (by simp)

/-- No token is fetched at the end of the text, and none outside a pass. -/
theorem fetch_none {s : State} (h : fetch s = .next none) :
    s.phase.inPass = false ∨ (s.phase.inPass = true ∧ textWraps s = false ∧ remainingText s = []) := by
  unfold fetch at h
  split at h
  · rename_i hp
    split at h
    · exact absurd h (by simp)
    · rename_i hw
      split at h
      · rename_i hr
        exact .inr ⟨hp, by simpa using hw, hr⟩
      · split at h <;> exact absurd h (by simp)
  · rename_i hp
    exact .inl (by simpa using hp)

theorem fetch_outside {s : State} (h : s.phase.inPass = false) : fetch s = .next none := by
  simp [fetch, h]

/-- A text that lies inside text memory is fetched without a fault. -/
theorem fetch_ne_fault {s : State} {f : Fault} (h : textWraps s = false) : fetch s ≠ .fault f := by
  unfold fetch
  split
  · split
    · rename_i hw
      rw [h] at hw
      exact absurd hw (by simp)
    · split
      · simp
      · split <;> simp
  · simp

/-- What the dispatch of R173 can answer: a text token, never a command. -/
theorem decodeToken_ok {p : Params} {c : Byte} {cs : List Byte} {i : Instr}
    (h : decodeToken p c cs = .ok i) :
    (c = Config.spaceByte ∧ i = .sp) ∨
      (c ≠ Config.spaceByte ∧ c = p.kreset ∧ i = .kr) ∨
      (c ≠ Config.spaceByte ∧ c ≠ p.kreset ∧
        ((∃ o, Font.resolve p (c :: cs) = .ok (some o) ∧ i = .glyph (BitVec.ofNat 17 o)) ∨
          (Font.resolve p (c :: cs) = .ok none ∧ i = .skip c))) := by
  unfold decodeToken at h
  split at h
  · rename_i hc
    exact .inl ⟨hc, by simpa using h.symm⟩
  · rename_i hc
    split at h
    · rename_i hk
      exact .inr (.inl ⟨hc, hk, by simpa using h.symm⟩)
    · rename_i hk
      refine .inr (.inr ⟨hc, hk, ?_⟩)
      split at h
      · rename_i o ho
        exact .inl ⟨o, ho, by simpa using h.symm⟩
      · rename_i ho
        exact .inr ⟨ho, by simpa using h.symm⟩
      · exact absurd h (by simp)

/-! ### Tokens -/

/-- Everything SP can do (R174). -/
theorem execSp_next {s t : State} (h : execSp s = .next t) :
    s.phase.inPass = true ∧
      ((spaceTruncates s.n s.mwEff = true ∧ t = s.endPass) ∨
        (spaceTruncates s.n s.mwEff = false ∧
          t = { s with n := s.n + Config.spaceWidth, t := 0 }.advance 1)) := by
  unfold execSp at h
  split at h
  · rename_i hp
    refine ⟨hp, ?_⟩
    simp only [Outcome.next.injEq] at h
    subst h
    unfold spaceEffect
    split
    · rename_i hc
      exact .inl ⟨hc, rfl⟩
    · rename_i hc
      exact .inr ⟨by simpa using hc, rfl⟩
  · exact absurd h (by simp)

/-- Everything KR can do (R175). -/
theorem execKr_next {s t : State} (h : execKr s = .next t) :
    s.phase.inPass = true ∧ t = { s with t := 0 }.advance 1 := by
  unfold execKr at h
  split at h
  · rename_i hp
    exact ⟨hp, by simpa [kernResetEffect] using h.symm⟩
  · exact absurd h (by simp)

/-- Everything SKIP can do (R188). -/
theorem execSkip_next {s t : State} {b : Byte} (h : execSkip b s = .next t) :
    s.phase.inPass = true ∧ t = s.advance 1 := by
  unfold execSkip at h
  split at h
  · rename_i hp
    exact ⟨hp, by simpa using h.symm⟩
  · exact absurd h (by simp)

/-- Everything GLYPH can do (R189): from what it reads of the font, the pass ends with the working
registers set and nothing of the glyph taken, or the glyph is drawn and recorded. -/
theorem execGlyph_next {s t : State} {o : Offset} (h : execGlyph o s = .next t) :
    s.phase.inPass = true ∧ ∃ d, glyphData s.par s.tab o.toNat = .ok d ∧
      ((glyphTruncates s.n (glyphReq (inCell s d) d.w (gapOf s d)) s.mwEff = true ∧
          t = (glyphScratch s o d).endPass) ∨
        (glyphTruncates s.n (glyphReq (inCell s d) d.w (gapOf s d)) s.mwEff = false ∧
          t = ({ glyphScratch s o d with
                  n := penAfter s.n (inCell s d) d.w (gapOf s d), t := d.columns.getLastD 0,
                  pd := d.dg }).emit (glyphEvents s d))) := by
  unfold execGlyph at h
  split at h
  · rename_i hp
    split at h
    · rename_i d hd
      refine ⟨hp, d, hd, ?_⟩
      simp only [Outcome.next.injEq] at h
      subst h
      unfold glyphEffect
      dsimp only
      split
      · rename_i hc
        exact .inl ⟨hc, rfl⟩
      · rename_i hc
        exact .inr ⟨by simpa using hc, rfl⟩
    · exact absurd h (by simp)
  · exact absurd h (by simp)

/-- What GLYPH reads is read from the font by the accessors (R177 to R180). -/
theorem glyphData_ok {p : Params} {tab : Bool} {o : Nat} {d : GlyphData}
    (h : glyphData p tab o = .ok d) :
    Font.keyLen p o = .ok d.kl ∧ d.kl ≠ 0 ∧ Font.keyByte p o 0 = .ok d.k0 ∧
      d.dg = isDigit d.kl d.k0 ∧ glyphUsed p (tab && d.dg) d.k0 o = .ok d.g ∧
      glyphColumns p d.g = .ok (d.w, d.columns) := by
  unfold glyphData at h
  cases h1 : Font.keyLen p o with
  | error e => simp [h1, bind, Except.bind] at h
  | ok kl =>
    simp only [h1, bind, Except.bind] at h
    split at h
    · exact absurd h (by simp)
    · rename_i hk
      cases h2 : Font.keyByte p o 0 with
      | error e => simp [h2] at h
      | ok k0 =>
        simp only [h2] at h
        cases h3 : glyphUsed p (tab && isDigit kl k0) k0 o with
        | error e => simp [h3] at h
        | ok g =>
          simp only [h3] at h
          cases h4 : glyphColumns p g with
          | error e => simp [h4] at h
          | ok wc =>
            simp only [h4, pure, Except.pure, Except.ok.injEq] at h
            subst h
            exact ⟨rfl, hk, h2 ▸ rfl, rfl, h3, h4⟩

/-- A token that answers a next state is SP, KR, GLYPH or SKIP, inside a pass. -/
theorem execToken_inPass {s t : State} {i : Instr} (h : execToken i s = .next t) :
    s.phase.inPass = true := by
  cases i with
  | sp => exact (execSp_next h).1
  | kr => exact (execKr_next h).1
  | glyph o => exact (execGlyph_next h).1
  | skip b => exact (execSkip_next (b := b) h).1
  | layoutL tb m => exact absurd h (by simp [execToken])
  | layoutR tb m => exact absurd h (by simp [execToken])
  | layoutC tb m => exact absurd h (by simp [execToken])
  | resolve => exact absurd h (by simp [execToken])
  | textLeft a l x y w => exact absurd h (by simp [execToken])
  | textCentered a l x y w => exact absurd h (by simp [execToken])

/-- A token's meaning inside a command is its meaning in `exec`. -/
theorem execToken_eq_exec {p : Params} {c : Byte} {cs : List Byte} {i : Instr} (s : State)
    (h : decodeToken p c cs = .ok i) : execToken i s = exec i s := by
  rcases decodeToken_ok h with ⟨-, rfl⟩ | ⟨-, -, rfl⟩ | ⟨-, -, ⟨o, -, rfl⟩ | ⟨-, rfl⟩⟩ <;> rfl

/-! ### The micro-sequencer -/

/-- Everything CHECK can do (R221, R233): Illegal, or the next phase with its pass started. -/
theorem checkCommand_cases (s : State) (c : Command) :
    (textWraps s = true ∧ s.checkCommand c = s.raiseIllegal) ∨
      (textWraps s = false ∧
        ((c = .resolve ∧ s.checkCommand c = { s with phase := .resolveRun }) ∨
          (∃ tb m, c = .layout .left tb m ∧ s.checkCommand c = s.startLayout (.pass2 false) tb m) ∨
          (∃ tb m, c = .layout .right tb m ∧
            s.checkCommand c = s.startLayout (.pass1 .right m) tb true) ∨
          (∃ tb m, c = .layout .center tb m ∧
            s.checkCommand c = s.startLayout (.pass1 .center m) tb true))) := by
  unfold State.checkCommand
  cases hw : textWraps s
  · refine .inr ⟨rfl, ?_⟩
    rcases c with ⟨_ | _ | _, tb, m⟩ | _
    · exact .inr (.inl ⟨tb, m, rfl, rfl⟩)
    · exact .inr (.inr (.inl ⟨tb, m, rfl, rfl⟩))
    · exact .inr (.inr (.inr ⟨tb, m, rfl, rfl⟩))
    · exact .inl ⟨rfl, rfl⟩
  · exact .inl ⟨rfl, rfl⟩

/-- Everything RESOLVE_RUN can do (R159): what the resolver and the accessors give goes to DONE. -/
theorem resolveRun_next {s t : State} (h : resolveRun s = .next t) :
    textWraps s = false ∧ ∃ r, resolveText s = .ok r ∧ t = s.endResolve r := by
  unfold resolveRun at h
  split at h
  · exact absurd h (by simp)
  · rename_i hw
    split at h
    · rename_i r hr
      exact ⟨by simpa using hw, r, hr, by simpa using h.symm⟩
    · exact absurd h (by simp)

/-- Everything the micro-sequencer can do where no token is to be executed (R221). -/
theorem micro_next {s t : State} (h : micro s = .next t) :
    (s.phase = .idle ∧ t = s) ∨ (∃ c, s.phase = .check c ∧ t = s.checkCommand c) ∨
      (s.phase.inPass = true ∧ t = s.endPass) ∨
      (∃ mode m, s.phase = .shift mode m ∧ t = s.startPass2 mode m) ∨
      (s.phase = .resolveRun ∧ resolveRun s = .next t) ∨
      (∃ r, s.phase = .done r ∧ t = s.finish r) := by
  unfold micro at h
  cases hp : s.phase with
  | shift mode m =>
    rw [hp] at h
    exact .inr (.inr (.inr (.inl ⟨mode, m, rfl, by simpa using h.symm⟩)))
  | _ => simp_all [Phase.inPass]

/-! ### Ticks, runs, steps -/

/-- Everything a tick can do (R221): the token at the cursor, or the micro-sequencer's own step. -/
theorem tick_next {s t : State} (h : tick s = .next t) :
    (∃ i, fetch s = .next (some i) ∧ execToken i s = .next t) ∨
      (fetch s = .next none ∧ micro s = .next t) := by
  unfold tick at h
  split at h
  · rename_i i hf
    exact .inl ⟨i, hf, h⟩
  · rename_i hf
    exact .inr ⟨hf, h⟩
  · exact absurd h (by simp)
  · exact absurd h (by simp)

/-- In a state that stands inside a command a step is one tick. -/
theorem step_eq_tick {s : State} (h : s.phase ≠ .idle) : step s = tick s := by
  have aux : (match fetch s with
      | .next (some i) => exec i s
      | .next none => micro s
      | .fault f => .fault f
      | .refused r => .refused r) = tick s := by
    unfold tick
    rcases hf : fetch s with (_ | i) | f | r
    · rfl
    · obtain ⟨-, -, c, cs, -, hd⟩ := fetch_some hf
      exact (execToken_eq_exec s hd).symm
    · rfl
    · rfl
  unfold step
  split
  · rename_i hp; exact absurd hp h
  all_goals exact aux

/-- While the engine is idle a step is the next host operation. -/
theorem step_idle {s : State} (h : s.phase = .idle) :
    step s = match hostAccess s with
      | .finished s' => .next s'
      | .run i s' => exec i s' := by
  unfold step
  split <;> first | rfl | (rename_i hp; rw [h] at hp; exact absurd hp (by simp))

/-- A command's run, taken once: what holds at its start and is kept by every tick inside the
command holds at its end, and the engine is idle then. -/
theorem runCommand_induction {P : State → Prop}
    (keep : ∀ s t, s.phase ≠ .idle → P s → tick s = .next t → P t) :
    ∀ {k s t}, P s → runCommand k s = .next t → P t ∧ t.phase = .idle := by
  intro k
  induction k with
  | zero =>
    intro s t hP h
    unfold runCommand at h
    split at h
    · rename_i hi
      simp only [Outcome.next.injEq] at h
      exact h ▸ ⟨hP, hi⟩
    · exact absurd h (by simp)
  | succ k ih =>
    intro s t hP h
    unfold runCommand at h
    split at h
    · rename_i hi
      simp only [Outcome.next.injEq] at h
      exact h ▸ ⟨hP, hi⟩
    · rename_i hi
      split at h
      · rename_i s' hs
        exact ih (keep s s' hi hP hs) h
      · exact absurd h (by simp)
      · exact absurd h (by simp)

/-- Everything a command can do: a run of the micro-sequencer from CHECK to completion (R41). -/
theorem command_next {c : Command} {s t : State} (h : command c s = .next t) :
    s.phase = .idle ∧ runCommand (commandFuel s) (s.startCommand c) = .next t := by
  unfold command at h
  split at h
  · rename_i hi
    exact ⟨hi, h⟩
  · exact absurd h (by simp)

/-- A command leaves the engine idle (R221). -/
theorem command_idle {c : Command} {s t : State} (h : command c s = .next t) : t.phase = .idle :=
  (runCommand_induction (P := fun _ => True) (fun _ _ _ _ _ => trivial) trivial
    (command_next h).2).2

/-- A run takes its first tick. -/
theorem runCommand_step {k : Nat} {s s' : State} (hp : s.phase ≠ .idle) (h : tick s = .next s') :
    runCommand (k + 1) s = runCommand k s' := by
  rw [runCommand, if_neg hp, h]

/-- A run ends where the engine is idle. -/
theorem runCommand_done {k : Nat} {s : State} (h : s.phase = .idle) : runCommand k s = .next s := by
  cases k <;> simp [runCommand, h]

/-- Outside a pass a tick is the micro-sequencer's own step. -/
theorem tick_outside {s : State} (h : s.phase.inPass = false) : tick s = micro s := by
  rw [tick, fetch_outside h]

/-- A command whose text wraps only sets ILLEGAL (R65, R233, R246). -/
theorem command_illegal {s : State} (c : Command) (hp : s.phase = .idle) (hw : textWraps s = true) :
    command c s = .next s.raiseIllegal := by
  have ht : tick (s.startCommand c) = .next s.raiseIllegal := by
    rw [tick_outside rfl]
    have hw' : textWraps (s.startCommand c) = true := hw
    simp only [micro, State.startCommand_phase, State.checkCommand, hw', if_true]
    rfl
  rw [command, if_pos hp, commandFuel, runCommand_step (by simp) ht]
  exact runCommand_done rfl

/-- A command whose text does not wrap is the run that CHECK starts (R221). -/
theorem command_legal {s : State} (c : Command) (hp : s.phase = .idle) :
    command c s =
      runCommand (2 * s.textLen.toNat + 4) ((s.startCommand c).checkCommand c) := by
  rw [command, if_pos hp, commandFuel]
  exact runCommand_step (by simp) (by rw [tick_outside rfl]; rfl)

/-- Everything RESOLVE can do (R159): Illegal, or what the resolver finds for the text. -/
theorem execResolve_next {s t : State} (h : execResolve s = .next t) :
    s.phase = .idle ∧
      ((textWraps s = true ∧ t = s.raiseIllegal) ∨
        (textWraps s = false ∧ ∃ r, resolveText s = .ok r ∧
          t = (s.endResolve r).finishResolve
            (r.map fun x => (BitVec.ofNat 16 x.1, x.2)))) := by
  have hi := (command_next h).1
  refine ⟨hi, ?_⟩
  cases hw : textWraps s with
  | true => exact .inl ⟨rfl, by simpa [execResolve, command_illegal _ hi hw] using h.symm⟩
  | false =>
    refine .inr ⟨rfl, ?_⟩
    have hc : (s.startCommand .resolve).checkCommand .resolve = { s with phase := .resolveRun } := by
      have hw' : textWraps (s.startCommand .resolve) = false := hw
      simp only [State.checkCommand, hw']
      rfl
    unfold execResolve at h
    rw [command_legal _ hi, hc] at h
    rw [runCommand, if_neg (by simp), tick_outside rfl] at h
    split at h
    · rename_i u hu
      obtain ⟨-, r, hr, rfl⟩ := resolveRun_next (s := { s with phase := .resolveRun }) hu
      refine ⟨r, hr, ?_⟩
      rw [runCommand_step (s' := ({ s with phase := .resolveRun } : State).endResolve r |>.finishResolve
        (r.map fun x => (BitVec.ofNat 16 x.1, x.2))) (by simp) (by rw [tick_outside rfl]; rfl),
        runCommand_done rfl] at h
      exact (Outcome.next.inj h).symm
    · exact absurd h (by simp)
    · exact absurd h (by simp)

/-- Everything a wrapper can do (R119): its writes, its LAYOUT command, its read. -/
theorem wrapper_next {al : Align} {base len x y w : Word} {s t : State}
    (h : wrapper al base len x y w s = .next t) :
    s.phase = .idle ∧ ∃ u,
      command (.layout al false false) (s.writeOperands base len x y w) = .next u ∧
      t = u.regRead 7 := by
  unfold wrapper at h
  split at h
  · rename_i hi
    refine ⟨hi, ?_⟩
    split at h
    · rename_i u hu
      exact ⟨u, hu, by simpa using h.symm⟩
    · exact absurd h (by simp)
    · exact absurd h (by simp)
  · exact absurd h (by simp)

end Sys2Proof.Machine
end

