-- ==== Sys2Proof/Laws/Memory.lean ====
section
/-! SUPPORT. Text memory: every operation keeps the canonical form, a read after a write gives the
byte written, and a write leaves every other address alone. -/

namespace Sys2Proof.Machine

@[simp] theorem Memory.read_nil (a : Nat) : Memory.read [] a = Config.textDefault := rfl

theorem Memory.wf_nil : Memory.wf [] = true := rfl

theorem Memory.wfFrom_mono {lo lo' : Nat} {m : Memory} (h : Memory.wfFrom lo m = true)
    (hl : lo' ≤ lo) : Memory.wfFrom lo' m = true := by
  cases m with
  | nil => rfl
  | cons c m =>
    obtain ⟨a, b⟩ := c
    simp only [Memory.wfFrom, Bool.and_eq_true, decide_eq_true_eq] at h ⊢
    exact ⟨⟨⟨by omega, h.1.1.2⟩, h.1.2⟩, h.2⟩

/-- Below the bound from which a memory lists addresses, every byte is the default. -/
theorem Memory.read_below {lo a : Nat} {m : Memory} (h : Memory.wfFrom lo m = true) (ha : a < lo) :
    Memory.read m a = Config.textDefault := by
  induction m generalizing lo with
  | nil => rfl
  | cons c m ih =>
    obtain ⟨a', b⟩ := c
    simp only [Memory.wfFrom, Bool.and_eq_true, decide_eq_true_eq] at h
    rw [Memory.read, if_neg (by omega)]
    exact ih h.2 (by omega)

/-- A write keeps the canonical form. -/
theorem Memory.wfFrom_write {lo a : Nat} {m : Memory} (b : Byte) (h : Memory.wfFrom lo m = true)
    (hlo : lo ≤ a) (ha : a < 65536) : Memory.wfFrom lo (Memory.write m a b) = true := by
  induction m generalizing lo with
  | nil =>
    unfold Memory.write
    split
    · rfl
    · simp_all [Memory.wfFrom]
  | cons c m ih =>
    obtain ⟨a', b'⟩ := c
    have h' := h
    simp only [Memory.wfFrom, Bool.and_eq_true, decide_eq_true_eq] at h
    obtain ⟨⟨⟨h1, h2⟩, h3⟩, h4⟩ := h
    unfold Memory.write
    split
    · rename_i hlt
      split
      · exact h'
      · simp_all [Memory.wfFrom]
    · split
      · rename_i _ heq
        subst heq
        split
        · exact Memory.wfFrom_mono h4 (by omega)
        · simp_all [Memory.wfFrom]
      · have := ih h4 (by omega : a' + 1 ≤ a)
        simp_all [Memory.wfFrom]

theorem Memory.wf_write {m : Memory} {a : Nat} (b : Byte) (h : Memory.wf m = true)
    (ha : a < 65536) : Memory.wf (Memory.write m a b) = true :=
  Memory.wfFrom_write b h (Nat.zero_le a) ha

/-- Reading after a write: the byte written at its address, what was there before elsewhere. -/
theorem Memory.read_writeFrom {lo a : Nat} {m : Memory} (b : Byte) (x : Nat)
    (h : Memory.wfFrom lo m = true) :
    Memory.read (Memory.write m a b) x = if x = a then b else Memory.read m x := by
  induction m generalizing lo with
  | nil =>
    unfold Memory.write
    by_cases hb : b = Config.textDefault
    · rw [if_pos hb, hb]; simp
    · rw [if_neg hb]
      change (if a = x then b else Memory.read [] x) = _
      by_cases hx : x = a
      · rw [if_pos hx, if_pos hx.symm]
      · rw [if_neg hx, if_neg (Ne.symm hx)]
  | cons c m ih =>
    obtain ⟨a', b'⟩ := c
    simp only [Memory.wfFrom, Bool.and_eq_true, decide_eq_true_eq] at h
    obtain ⟨-, h4⟩ := h
    unfold Memory.write
    split
    · rename_i hlt
      split
      · rename_i hb
        by_cases hx : x = a
        · subst hx
          rw [if_pos rfl, Memory.read, if_neg (by omega), Memory.read_below h4 (by omega), hb]
        · rw [if_neg hx]
      · by_cases hx : x = a
        · subst hx; simp [Memory.read]
        · rw [if_neg hx, Memory.read, if_neg (fun e => hx e.symm)]
    · split
      · rename_i _ heq
        subst heq
        split
        · rename_i hb
          by_cases hx : x = a
          · subst hx
            rw [if_pos rfl, Memory.read_below h4 (by omega), hb]
          · rw [if_neg hx, Memory.read, if_neg (fun e => hx e.symm)]
        · by_cases hx : x = a
          · subst hx; simp [Memory.read]
          · rw [if_neg hx, Memory.read, Memory.read, if_neg (fun e => hx e.symm),
              if_neg (fun e => hx e.symm)]
      · rename_i hn
        rw [Memory.read, Memory.read, ih h4]
        by_cases hx : a' = x
        · subst hx
          rw [if_pos rfl, if_pos rfl, if_neg (fun e => hn e.symm)]
        · rw [if_neg hx, if_neg hx]

theorem Memory.read_write {a : Nat} {m : Memory} (b : Byte) (x : Nat) (h : Memory.wf m = true) :
    Memory.read (Memory.write m a b) x = if x = a then b else Memory.read m x :=
  Memory.read_writeFrom b x h

/-- Writing a run of bytes inside text memory keeps the canonical form. -/
theorem Memory.wf_writeBytes {m : Memory} {a : Nat} {bs : List Byte} (h : Memory.wf m = true)
    (ha : a + bs.length ≤ 65536) : Memory.wf (Memory.writeBytes m a bs) = true := by
  induction bs generalizing m a with
  | nil => exact h
  | cons b bs ih =>
    simp only [List.length_cons] at ha
    exact ih (Memory.wf_write b h (by omega)) (by omega)

/-- Placing a byte of text keeps the canonical form. -/
theorem State.wf_placeText {s : State} (a : Half) (b : Byte) (h : Memory.wf s.text = true) :
    Memory.wf (s.placeText a b).text = true :=
  Memory.wf_write b h a.isLt

/-- Putting a token where it is fetched keeps the canonical form. -/
theorem wf_placeToken {s : State} {bs : List Byte} (h : Memory.wf s.text = true)
    (hb : bs.length ≤ 65536) : Memory.wf (placeToken s bs).text = true := by
  dsimp only [placeToken]
  by_cases hc : s.textBase.toNat + s.cur.toNat + bs.length ≤ 65536 ∧
      s.cur.toNat + bs.length ≤ 65535
  · rw [if_pos hc]
    exact Memory.wf_writeBytes h hc.1
  · rw [if_neg hc]
    exact Memory.wf_writeBytes h (by omega)

/-- The length of a run of text bytes. -/
@[simp] theorem length_textBytes (m : Memory) (base len : Nat) :
    (textBytes m base len).length = len := by
  simp [textBytes]

end Sys2Proof.Machine
end

