-- ==== Sys2Proof/Laws/PerInstr.lean ====
section
/-! SUPPORT. One family of statements made per instruction: the form of an instruction's encoding
(30_encoding.md R90). A command's word and a wrapper's accesses decode to it, for every font; a text
token is spelled by text bytes. -/

namespace Sys2Proof.Laws.EncodingForm

open Sys2Proof.Machine (isCommand)

/-- The form of the encoding of `i` (R90). -/
def Statement (i : Instr) : Prop :=
  ∀ p : Params,
    if isCommand i = true then decode p (encode p i) = .ok i else ∃ bs, encode p i = .text bs

theorem layoutL (tb m : Bool) : Statement (.layoutL tb m) := by
  intro p; cases tb <;> cases m <;> rfl

theorem layoutR (tb m : Bool) : Statement (.layoutR tb m) := by
  intro p; cases tb <;> cases m <;> rfl

theorem layoutC (tb m : Bool) : Statement (.layoutC tb m) := by
  intro p; cases tb <;> cases m <;> rfl

theorem resolve : Statement .resolve := fun _ => rfl

theorem sp : Statement .sp := fun _ => ⟨_, rfl⟩

theorem kr : Statement .kr := fun _ => ⟨_, rfl⟩

theorem glyph (o : Offset) : Statement (.glyph o) := fun _ => ⟨_, rfl⟩

theorem skip (b : Byte) : Statement (.skip b) := fun _ => ⟨_, rfl⟩

theorem textLeft (addr len x y maxw : Word) : Statement (.textLeft addr len x y maxw) :=
  fun _ => rfl

theorem textCentered (addr len x y w : Word) : Statement (.textCentered addr len x y w) :=
  fun _ => rfl

end Sys2Proof.Laws.EncodingForm
end

