-- ==== Sys2Proof/Tests/Slice0.lean ====
section
/-! SUPPORT. The model's own tests: the spec's vectors (95_test_vectors.md), ill-formed terms the
checks refuse, and a witness for the hypotheses of every statement that has some. -/

namespace Sys2Proof.Tests

open Sys2Proof.Machine

/-- Glyph ROM of the test font TF (95 section 2), first part. -/
def tfBytes1 : List Byte :=
  [0x02, 0x1B, 0x31, 0x05, 0x00, 0x22, 0x3F, 0x20, 0x00, 0x01, 0x27, 0x01, 0x03,
   0x01, 0x2E, 0x01, 0x20, 0x01, 0x30, 0x05, 0x1E, 0x21, 0x21, 0x21, 0x1E,
   0x01, 0x31, 0x03, 0x22, 0x3F, 0x20, 0x01, 0x37, 0x04, 0x01, 0x39, 0x05, 0x03]

/-- Second part. -/
def tfBytes2 : List Byte :=
  [0x01, 0x41, 0x05, 0x3E, 0x09, 0x09, 0x09, 0x3E, 0x01, 0x42, 0x05, 0x3F, 0x25, 0x25, 0x25, 0x1A,
   0x01, 0x48, 0x05, 0x3F, 0x04, 0x04, 0x04, 0x3F, 0x01, 0x49, 0x03, 0x21, 0x3F, 0x21,
   0x01, 0x58, 0x05, 0x21, 0x12, 0x0C, 0x12, 0x21]

/-- Third part. -/
def tfBytes3 : List Byte :=
  [0x02, 0x66, 0x69, 0x05, 0x04, 0x3E, 0x05, 0x00, 0x3D, 0x01, 0x66, 0x03, 0x04, 0x3E, 0x05,
   0x01, 0x67, 0x88, 0x1C, 0x01, 0x22, 0x02, 0x22, 0x02, 0xFE, 0x01,
   0x02, 0xC3, 0xA4, 0x05, 0x20, 0x55, 0x54, 0x55, 0x78, 0x00]

/-- An index ROM with the listed entries, the rest -1. -/
def indexOf (l : List (Nat × Half)) : Vector Half 64 :=
  Vector.ofFn fun i => ((l.find? (fun e => e.1 == i.val)).map (·.2)).getD 0xFFFF

/-- The parameters of the spec's vectors: TF, KRESET_BYTE 0x1F, ESC_BYTE 0x1B, LOW_FIRST. -/
def tf : Params :=
  { font := tfBytes1 ++ tfBytes2 ++ tfBytes3
    index := indexOf [(6, 0), (9, 9), (11, 13), (12, 17), (13, 31), (16, 38), (18, 54), (22, 68),
      (25, 76), (48, 102)]
    kreset := 0x1F, esc := 0x1B, col16 := .lowFirst }

/-- The test font TF2 with its 7-column digit (95 section 2). -/
def tf2 : Params :=
  { tf with
    font := [0x01, 0x38, 0x07, 0x36, 0x49, 0x49, 0x49, 0x49, 0x49, 0x36,
             0x01, 0x41, 0x05, 0x3E, 0x09, 0x09, 0x09, 0x3E, 0x00]
    index := indexOf [(14, 0), (16, 10)] }

/-- The vectors' start: text at address 0, Y = 8, `surf_w` = 128, MAXW as given. -/
def start (p : Params) (txt : List Byte) (maxw : Half) : State :=
  { State.powerOn p 128 with
    text := Memory.writeBytes [] 0 txt, textLen := BitVec.ofNat 16 txt.length, y := 8,
    maxw := maxw }

/-- WIDTH_USED and NATURAL after an instruction. -/
def widths (i : Instr) (s : State) : Option (Int × Int) :=
  (nextState? (exec i s)).map fun t => (t.widthUsed.toInt, t.natural.toInt)

/-- The pixel events after an instruction. -/
def points (i : Instr) (s : State) : Option (List (Int × Int)) :=
  (nextState? (exec i s)).map fun t => t.pixels.map Ref.point

/-- Does an instruction complete, with what the test asks of the next state? -/
def answers (i : Instr) (s : State) (P : State → Bool) : Bool :=
  match exec i s with
  | .next t => P t
  | .fault _ => false
  | .refused _ => false

/-- Does a step complete, with what the test asks of the next state? -/
def steps (s : State) (P : State → Bool) : Bool :=
  match step s with
  | .next t => P t
  | .fault _ => false
  | .refused _ => false

/-- A state inside a drawing pass over `txt`, unbounded, origin 0. -/
def inPass (p : Params) (txt : List Byte) : State :=
  { start p txt 0 with phase := .pass2 false }

/-- The records of TF. -/
def tfRecords : List Font.Record := (Font.records tf).getD []

/-- The record of "H" (R103, offset 54). -/
def recordH : Font.Record :=
  { off := 54, key := [0x48], tall := false, bitmap := [0x3F, 0x04, 0x04, 0x04, 0x3F] }

/-- The record of "1" (offset 25). -/
def record1 : Font.Record :=
  { off := 25, key := [0x31], tall := false, bitmap := [0x22, 0x3F, 0x20] }

/-! ### Commands (vectors S, A, P of 95) -/

-- S1: "HI" is 9 wide, the kerning gap included.
theorem test_layoutL_S1 :
    widths (.layoutL false false) (start tf [0x48, 0x49] 0) = some (9, 9) := by decide

-- S4: the first glyph exceeds MAXW = 3; nothing is drawn.
theorem test_layoutL_S4 :
    widths (.layoutL false false) (start tf [0x58] 3) = some (0, 0) := by decide

-- A2: LAYOUT.R "A " in 20: pass 2 stops at the trailing space.
theorem test_layoutR_A2 :
    widths (.layoutR false false) (start tf [0x41, 0x20] 20) = some (5, 8) := by decide

-- A4R: LAYOUT.R "X" in 3: the zero-measure corner; the events at x 3 to 7.
theorem test_layoutR_A4R :
    points (.layoutR false false) (start tf [0x58] 3)
      = some [(3, 4), (3, 9), (4, 5), (4, 8), (5, 6), (5, 7), (6, 5), (6, 8), (7, 4), (7, 9)] := by
  decide

-- A3: LAYOUT.C "HI", MAXW 0: shift floor2(-9) = -5; "H" is clipped, "I" at x 1 to 3.
theorem test_layoutC_A3 :
    points (.layoutC false false) (start tf [0x48, 0x49] 0)
      = some [(1, 4), (1, 9), (2, 4), (2, 5), (2, 6), (2, 7), (2, 8), (2, 9), (3, 4), (3, 9)] := by
  decide

-- A5: LAYOUT.C M "HI" in 20 measures both passes and emits nothing.
theorem test_layoutC_A5 :
    answers (.layoutC false true) (start tf [0x48, 0x49] 20)
      (fun t => t.widthUsed == 9 && t.natural == 9 && t.pixels == []) = true := by decide

-- "g": RES_OFF = 91, RES_INFO = 0x8801, FOUND = 1.
theorem test_resolve_g :
    answers .resolve (start tf [0x67] 0)
      (fun t => t.found && t.resOff == 91 && t.resInfo == 0x8801) = true := by decide

-- `C3`: the key is longer than the input: 0xFFFF, 0, FOUND = 0.
theorem test_resolve_C3 :
    answers .resolve (start tf [0xC3] 0)
      (fun t => !t.found && t.resOff == 0xFFFF && t.resInfo == 0) = true := by decide

-- P1: TEXT_LEFT of "HI" at 0x0100 returns 9.
theorem test_textLeft_P1 :
    answers (.textLeft 0x100 2 0 8 0)
      { State.powerOn tf 128 with text := Memory.writeBytes [] 0x100 [0x48, 0x49] }
      (fun t => t.reads == [9] && t.pixels.length == 25) = true := by decide

-- P2: TEXT_CENTERED of "HI" in 20 returns 9 and leaves X = 0, MAXW = 20 (R42).
theorem test_textCentered_P2 :
    answers (.textCentered 0x100 2 0 8 20)
      { State.powerOn tf 128 with text := Memory.writeBytes [] 0x100 [0x48, 0x49] }
      (fun t => t.reads == [9] && t.x == 0 && t.maxw == 20 && t.pixels.head? == some ⟨5, 4⟩)
      = true := by decide

/-! ### Tokens -/

-- TR6: n = 5, mw_eff = 8: 5 + 3 >= 8, the pass stops.
theorem test_sp_TR6 :
    answers .sp { inPass tf [0x20] with n := 5, mwEff := 8 }
      (fun t => t.n == 5 && t.phase == .done (.layout false)) = true := by decide

-- TR7: n = 5, mw_eff = 9: the space is taken, n = 8, t = 0.
theorem test_sp_TR7 :
    answers .sp { inPass tf [0x20] with n := 5, mwEff := 9, t := 62 }
      (fun t => t.n == 8 && t.t == 0 && t.cur == 1) = true := by decide

-- K3: after "H" KR clears t = 63, the pen stays at 5.
theorem test_kr_K3 :
    answers .kr { inPass tf [0x1F] with n := 5, t := 63 }
      (fun t => t.n == 5 && t.t == 0 && t.cur == 1) = true := by decide

-- S5: SKIP leaves n = 5 and t = 63.
theorem test_skip_S5 :
    answers (.skip 0x7F) { inPass tf [0x7F] with n := 5, t := 63 }
      (fun t => t.n == 5 && t.t == 63 && t.cur == 1) = true := by decide

-- T11: under TABULAR "1" after "A" (n = 5, t = 62) uses its variant, record 0, with the forced gap.
theorem test_glyph_T11 :
    answers (.glyph 25) { inPass tf [0x31] with n := 5, t := 62, tab := true }
      (fun t => t.n == 11 && t.g == 0 && t.gap && t.pd && t.t == 0
        && t.pixels.head? == some ⟨7, 5⟩) = true := by decide

-- W1: a 7-column tabular digit: lead -1, column 0 clipped, n = 5 after it.
theorem test_glyph_W1 :
    answers (.glyph 0) { inPass tf2 [0x38] with tab := true }
      (fun t => t.n == 5 && t.pixels.length == 19 && t.pixels.head? == some ⟨0, 4⟩) = true := by
  decide

/-! ### The host interface and Illegal (vectors H, I) -/

-- H2, H3: X = -2 either way.
theorem test_regWrite_H2_H3 :
    regValue ((State.powerOn tf 0).regWrite 4 0xFFFFFFFE) 4 = 0xFFFFFFFE
      ∧ regValue ((State.powerOn tf 0).regWrite 4 0x0000FFFE) 4 = 0xFFFFFFFE := by decide

-- P7: al = 3 is Illegal and sticky; WIDTH_USED stays.
theorem test_illegal_P7 :
    steps { start tf [0x48] 0 with widthUsed := 8, host := [.regWrite 0 0x13] }
      (fun t => t.illegal && t.widthUsed == 8 && t.pixels == [] && t.host == []) = true := by decide

-- I6, I7: TEXT_BASE = 0xFFFF is Illegal with TEXT_LEN = 2 and legal with TEXT_LEN = 1.
theorem test_textRange_I6_I7 :
    answers (.layoutL false false)
        { State.powerOn tf 0 with textBase := 0xFFFF, textLen := 2 } (fun t => t.illegal) = true
      ∧ answers (.layoutL false false)
        { State.powerOn tf 0 with textBase := 0xFFFF, textLen := 1 } (fun t => !t.illegal) = true := by
  decide

/-! ### Decoding: words written out from the spec's encodings -/

-- R91: zero, op = 0001, m, tb, al.
theorem test_decode_layoutL : decodeCmd 0b00000000000000000000000000011100#32
    = .ok (.layoutL true true) := by decide
theorem test_decode_layoutR : decodeCmd 0b00000000000000000000000000011001#32
    = .ok (.layoutR false true) := by decide
theorem test_decode_layoutC : decodeCmd 0b00000000000000000000000000010110#32
    = .ok (.layoutC true false) := by decide
theorem test_decode_resolve : decodeCmd 0b00000000000000000000000000100000#32
    = .ok .resolve := by decide

-- I1 to I5: illegal words, each refused by its name.
theorem test_decode_I1 : decodeCmd 0x00000000 = .error .reservedOp := by decide
theorem test_decode_I2 : decodeCmd 0x0000001B = .error .reservedAlign := by decide
theorem test_decode_I3 : decodeCmd 0x00000024 = .error .resolveOptions := by decide
theorem test_decode_I4 : decodeCmd 0x000000F0 = .error .reservedOp := by decide
theorem test_decode_I5 : decodeCmd 0x80000010 = .error .reservedBits := by decide

-- R111 to R114: SP 0x20, KR 0x1F, GLYPH "fi" before "f", SKIP of a byte with no glyph.
theorem test_decode_sp : decodeText tf [0b00100000] = .ok .sp := by decide
theorem test_decode_kr : decodeText tf [0x1F, 0x49] = .ok .kr := by decide
theorem test_decode_glyph_fi : decodeText tf [0x66, 0x69, 0x67] = .ok (.glyph 76) := by decide
theorem test_decode_glyph_f : decodeText tf [0x66, 0x67] = .ok (.glyph 85) := by decide
theorem test_decode_skip : decodeText tf [0x7F, 0x49] = .ok (.skip 0x7F) := by decide
theorem test_decode_empty : decodeText tf [] = .error .endOfText := by decide

-- R119: the wrappers' expansions.
theorem test_decode_textLeft :
    decodeHost [.regWrite 2 0x100, .regWrite 3 2, .regWrite 4 0, .regWrite 5 8, .regWrite 6 0,
      .regWrite 0 0x10, .regRead 7] = .ok (.textLeft 0x100 2 0 8 0) := by decide
theorem test_decode_textCentered :
    decodeHost [.regWrite 2 0x100, .regWrite 3 2, .regWrite 4 0, .regWrite 5 8, .regWrite 6 20,
      .regWrite 0 0x12, .regRead 7] = .ok (.textCentered 0x100 2 0 8 20) := by decide
theorem test_decode_noWrapper : decodeHost [.regRead 7] = .error .noWrapper := by decide

-- 95 section 3: the 16-row record of "g" at 91, low byte first.
theorem test_column_g : Font.column tf 91 0 = .ok 0x011C ∧ Font.column tf 91 3 = .ok 0x01FE := by
  decide

-- R160: "C" walks "A", "B", "H" and stops at the early exit.
theorem test_resolve_early_exit : Font.resolve tf [0x43] = .ok none := by decide

/-! ### The host's question: a row's word decodes and runs as the first instruction after reset -/

theorem test_tableWord_layoutL : decodeTableWord 32 0x10 = some (.layoutL false false) := by decide
theorem test_tableWord_sp : decodeTableWord 8 0x20 = some .sp := by decide

theorem test_fetchWord_layoutC :
    steps (State.reset.withFetchWord 32 0x1A) (fun t => t.phase == .idle && !t.illegal) = true := by
  decide
theorem test_fetchWord_resolve :
    steps (State.reset.withFetchWord 32 0x20) (fun t => t.resOff == 0xFFFF) = true := by decide
theorem test_fetchWord_sp :
    steps (State.reset.withFetchWord 8 0x20) (fun t => t.n == 3 && t.cur == 1) = true := by decide

/-! ### Well-formedness: TF passes, and each check refuses an ill-formed term -/

theorem test_wf_tf : tf.wf = true := by decide
theorem test_wf_tf2 : tf2.wf = true := by decide
-- R6: an empty glyph ROM.
theorem test_wf_size : fontSizeOk { tf with font := [] } = false := by decide
-- R140 (a): no sentinel.
theorem test_wf_sentinel : ({ tf2 with font := tf2.font.take 18 } : Params).wf = false := by decide
-- R140 (a): a record that runs past the end.
theorem test_wf_overrun :
    Font.records { tf with font := [0x01, 0x41, 0x05, 0x3E, 0x09] } = none := by decide
-- R140 (b): the first record of a bucket at 32768.
theorem test_wf_offset :
    firstOffsetsOk [{ off := 32768, key := [0x41], tall := false, bitmap := [1] }] = false := by
  decide
-- R140 (c): the index points at the second record of bucket 16.
theorem test_wf_index :
    ({ tf with index := tf.index.set 16 46 } : Params).wf = false := by decide
-- R101: a reserved index value.
theorem test_wf_index_reserved :
    ({ tf with index := tf.index.set 0 0xFFFE } : Params).wf = false := by decide
-- R140 (d): bucket 16 split by bucket 18; and "B" before "A".
theorem test_wf_contiguous : contiguousOk [0x41, 0x48, 0x42] = false := by decide
theorem test_wf_ascending : ascendingOk [0x42, 0x41] = false := by decide
-- R140 (e): no column; half a column.
theorem test_wf_noColumns : shapeOk { recordH with bitmap := [] } = false := by decide
theorem test_wf_halfColumn : shapeOk { recordH with tall := true } = false := by decide
-- U6: KRESET_BYTE = 0x20.
theorem test_wf_kreset : ({ tf with kreset := 0x20 } : Params).wf = false := by decide
theorem test_wf_kr : Instr.wf { tf with kreset := 0x20 } .kr = false := by decide
-- GLYPH: no record at 1; a key that begins with the space byte or KRESET_BYTE; a shadowed key.
theorem test_wf_glyph_none : Instr.wf tf (.glyph 1) = false := by decide
theorem test_wf_glyph_space : spellable tf [] { recordH with key := [0x20, 0x41] } = false := by decide
theorem test_wf_glyph_kreset : spellable tf [] { recordH with key := [0x1F] } = false := by decide
theorem test_wf_glyph_shadowed :
    spellable tf [{ recordH with off := 0 }] { recordH with key := [0x48, 0x49] } = false := by decide
-- SKIP: a byte another token claims.
theorem test_wf_skip_space : Instr.wf tf (.skip 0x20) = false := by decide
theorem test_wf_skip_kreset : Instr.wf tf (.skip 0x1F) = false := by decide
theorem test_wf_skip_glyph : Instr.wf tf (.skip 0x41) = false := by decide
-- U9: a program that touches register 11 is not safe.
theorem test_safe_register :
    safe { State.powerOn tf 0 with host := [.regRead 11] } = false
      ∧ safe { State.powerOn tf 0 with host := [.regRead 10] } = true := by decide

/-! ### Witnesses: concrete values that meet the hypotheses of each statement together

Where a hypothesis is that an instruction or a step answers a next state, `answers` and `steps` show
that it does, with what the other hypotheses ask of that state. -/

theorem records_tf : Font.records tf = some tfRecords := by decide
theorem recordH_mem : recordH ∈ tfRecords := by decide
theorem record1_mem : record1 ∈ tfRecords := by decide

theorem witness_ResetRegistersReadZero : tf.wf = true := by decide

theorem witness_ResetSatisfiesInvariant : tf.wf = true ∧ Inv (State.powerOn tf 128) := by decide

theorem witness_LayoutAfterResetIsHarmless :
    tf.wf = true ∧ answers (.layoutL false false) (State.powerOn tf 128)
      (fun t => t.widthUsed == 0 && t.pixels == [] && !t.illegal) = true := by decide

-- ILLEGAL in bit 0, FOUND in bit 1.
theorem witness_RegisterMapReads :
    (State.powerOn tf 0).par.wf = true
      ∧ regValue { State.powerOn tf 0 with found := true } 1 = 2 := by decide

-- Both ends of the range, and both sides of the change from zero to sign extension.
theorem witness_RegisterWriteReadsBack :
    (State.powerOn tf 0).par.wf = true ∧ (2 ≤ 2 ∧ 2 ≤ 6) ∧ (2 ≤ 3 ∧ 3 ≤ 6) ∧ (2 ≤ 4 ∧ 4 ≤ 6) ∧ (2 ≤ 6 ∧ 6 ≤ 6)
      ∧ regValue ((State.powerOn tf 0).regWrite 2 0x18000) 2 = 0x8000
      ∧ regValue ((State.powerOn tf 0).regWrite 3 0x18000) 3 = 0x8000
      ∧ regValue ((State.powerOn tf 0).regWrite 4 0x18000) 4 = 0xFFFF8000
      ∧ regValue ((State.powerOn tf 0).regWrite 6 0x18000) 6 = 0xFFFF8000 := by decide

-- H6: WR WIDTH_USED, 77; and the lowest and the highest of the five numbers.
theorem witness_ReadOnlyRegistersIgnoreWrites :
    let s := { State.powerOn tf 0 with host := [.regWrite 7 77] }
    s.par.wf = true ∧ s.phase = .idle ∧ s.host = .regWrite 7 77 :: [] ∧ 7 ∈ [1, 7, 8, 9, 10] ∧ 1 ∈ [1, 7, 8, 9, 10]
      ∧ 10 ∈ [1, 7, 8, 9, 10] ∧ steps s (fun t => t.widthUsed == 0) = true := by decide

theorem witness_HostAccessIsOneStep :
    ((State.powerOn tf 0).par.wf = true ∧ (State.powerOn tf 0).phase = .idle
        ∧ (State.powerOn tf 0).host = [])
      ∧ steps { State.powerOn tf 0 with host := [.regRead 4], x := 0xFFFE }
          (fun t => t.reads == [0xFFFFFFFE] && t.host == []) = true
      ∧ steps { State.powerOn tf 0 with host := [.regWrite 6 20] }
          (fun t => t.maxw == 20 && t.host == []) = true
      ∧ steps { State.powerOn tf 0 with host := [.setSurfW 0xFFFF] }
          (fun t => t.surfW == 0xFFFF && t.host == []) = true
      -- "HI" in 20, left and centred: 9 wide, from x = 0 and from x = 5 (P1, P2).
      ∧ steps { start tf [0x48, 0x49] 0 with host := [.textLeft 0 2 0 8 20] }
          (fun t => t.reads == [9] && t.pixels.head? == some ⟨0, 4⟩) = true
      ∧ steps { start tf [0x48, 0x49] 0 with host := [.textCentered 0 2 0 8 20] }
          (fun t => t.reads == [9] && t.pixels.head? == some ⟨5, 4⟩) = true := by decide

-- The first undefined number.
theorem witness_UndefinedRegistersAreInert :
    (State.powerOn tf 0).par.wf = true ∧ 11 ≤ 11 ∧ regValue (State.powerOn tf 0) 11 = 0 := by decide

theorem witness_PlacedTextReadsBack :
    let s := { State.powerOn tf 0 with host := [.placeText 0xFFFF 0x41] }
    s.par.wf = true ∧ s.phase = .idle ∧ s.host = .placeText 0xFFFF 0x41 :: [] ∧ Memory.wf s.text = true
      ∧ steps s (fun t => Memory.read t.text 65535 == 0x41 && Memory.read t.text 65534 == 0) = true := by
  decide

theorem witness_StepRunsWrittenCommand :
    let s := { start tf [0x48] 0 with host := [.regWrite 0 0x10] }
    s.par.wf = true ∧ s.phase = .idle ∧ s.host = .regWrite 0 0x10 :: []
      ∧ decodeCmd 0x10 = .ok (.layoutL false false) ∧ decodeCmd 0x13 = .error .reservedAlign := by
  decide

theorem witness_StepRunsDecodedToken :
    let s := inPass tf [0x48, 0x49]
    s.par.wf = true ∧ s.phase.inPass = true ∧ s.textBase.toNat + s.textLen.toNat ≤ 65536
      ∧ remainingText s = 0x48 :: [0x49] ∧ decodeToken s.par 0x48 [0x49] = .ok (.glyph 54) := by
  decide

theorem witness_MicroSequencerSteps :
    let s := { inPass tf [0x48] with cur := 1 }
    (s.par.wf = true ∧ s.phase.inPass = true ∧ s.textBase.toNat + s.textLen.toNat ≤ 65536
        ∧ remainingText s = [])
      ∧ steps { s with phase := .shift .center true, n := 9 }
          (fun t => t.xEff == 0xFFFFFFFB && t.mwEff == 9 && t.measEff && t.phase == .pass2 true) = true
      ∧ steps { s with phase := .shift .right false, n := 9 }
          (fun t => t.xEff == 0xFFFFFFF7 && t.n1 == 9 && !t.measEff) = true
      ∧ steps { s with phase := .done (.layout true), n := 9, n1 := 7 }
          (fun t => t.widthUsed == 9 && t.natural == 7 && t.phase == .idle) = true
      ∧ steps { s with phase := .done (.layout false), n := 9, n1 := 7 }
          (fun t => t.natural == 9) = true := by decide

-- A text that wraps by one byte; one that ends at the top of text memory; each command.
theorem witness_CheckPhaseSteps :
    let s := { start tf [] 20 with textBase := 0xFFFF, textLen := 1, x := 0xFFFF }
    s.par.wf = true ∧ s.textBase.toNat + s.textLen.toNat ≤ 65536
      ∧ 65536 < ({ s with textLen := 2 } : State).textBase.toNat + (2#16).toNat
      ∧ steps { s with textLen := 2, phase := .check .resolve }
          (fun t => t.illegal && t.phase == .idle) = true
      ∧ steps { s with phase := .check .resolve } (fun t => t.phase == .resolveRun) = true
      ∧ steps { s with phase := .check (.layout .left true true) }
          (fun t => t.phase == .pass2 false && t.measEff && t.tab && t.xEff == 0xFFFFFFFF) = true
      ∧ steps { s with phase := .check (.layout .right false false) }
          (fun t => t.phase == .pass1 .right false && t.measEff && t.mwEff == 20) = true
      ∧ steps { s with phase := .check (.layout .center false true) }
          (fun t => t.phase == .pass1 .center true) = true := by decide

-- "g" is found at 91 with RES_INFO 0x8801 (95 section 4); `C3` alone is not found.
theorem witness_ResolvePhaseSteps :
    let s := { start tf [0x67] 0 with phase := .resolveRun }
    let u := { start tf [0xC3] 0 with phase := .resolveRun, found := true }
    s.par.wf = true ∧ Font.records s.par = some tfRecords
      ∧ s.textBase.toNat + s.textLen.toNat ≤ 65536
      ∧ steps s (fun t => t.phase == .done (.resolve (some (91, 0x8801))) && !t.found) = true
      ∧ steps u (fun t => t.phase == .done (.resolve none) && t.found) = true
      ∧ steps { s with phase := .done (.resolve (some (91, 0x8801))) }
          (fun t => t.found && t.resOff == 91 && t.resInfo == 0x8801 && t.phase == .idle) = true
      ∧ steps { u with phase := .done (.resolve none) }
          (fun t => !t.found && t.resOff == 0xFFFF && t.resInfo == 0) = true := by decide

theorem witness_SampleEncodingsDecode : tf.wf = true := by decide

-- One word for each row, and one for no row.
theorem witness_CommandWordsMatchTheTable :
    0x1C#32 &&& 0xFFFFFFF3#32 = 0x10#32 ∧ 0x19#32 &&& 0xFFFFFFF3#32 = 0x11#32
      ∧ 0x16#32 &&& 0xFFFFFFF3#32 = 0x12#32 ∧ 0x20#32 &&& 0xFFFFFFFF#32 = 0x20#32
      ∧ (0x13#32 &&& 0xFFFFFFF3#32 ≠ 0x10#32 ∧ 0x13#32 &&& 0xFFFFFFF3#32 ≠ 0x11#32
        ∧ 0x13#32 &&& 0xFFFFFFF3#32 ≠ 0x12#32 ∧ 0x13#32 ≠ 0x20#32) := by decide

theorem witness_CommandEncodeAfterDecode :
    decodeCmd 0x1E = .ok (.layoutC true true) ∧ encode tf (.layoutC true true) = .cmd 0x1E := by
  decide

-- I5, I1, I2, I3: one word for each disjunct.
theorem witness_IllegalWordOnlySetsIllegal :
    (State.powerOn tf 0).par.wf = true ∧ (0x80000010#32).toNat / 256 ≠ 0
      ∧ ((0x0#32).toNat / 16 % 16 ≠ 1 ∧ (0x0#32).toNat / 16 % 16 ≠ 2)
      ∧ ((0x1F#32).toNat / 16 % 16 = 1 ∧ (0x1F#32).toNat % 4 = 3)
      ∧ ((0x28#32).toNat / 16 % 16 = 2 ∧ (0x28#32).toNat % 16 ≠ 0)
      ∧ steps { State.powerOn tf 0 with host := [.regWrite 0 0x28] } (fun t => t.illegal) = true := by
  decide

-- A command, a GLYPH (the ligature "fi"), the shorter key it does not shadow, a SKIP.
theorem witness_DecodeEncodeRoundTrip :
    tf.wf = true ∧ Instr.wf tf (.layoutR true false) = true ∧ Instr.wf tf (.glyph 76) = true
      ∧ Instr.wf tf (.glyph 85) = true ∧ Instr.wf tf (.skip 0x7F) = true
      ∧ Instr.wf tf .kr = true := by decide

/-- "H" and the 16-row "g" as their author states them. -/
def sources : List GlyphSource :=
  [{ key := [0x48], tall := false, columns := [63, 4, 4, 4, 63] },
   { key := [0x67], tall := true, columns := [0x011C, 0x0222, 0x0222, 0x01FE] }]

theorem witness_FontImageReadsBack :
    (let p := { tf with font := encodeFont .lowFirst sources }
     (∀ g ∈ sources, Ref.sourceOk g = true) ∧ p.font = encodeFont p.col16 sources)
      ∧ encodeFont .lowFirst sources
        = [0x01, 0x48, 0x05, 0x3F, 0x04, 0x04, 0x04, 0x3F,
           0x01, 0x67, 0x88, 0x1C, 0x01, 0x22, 0x02, 0x22, 0x02, 0xFE, 0x01, 0x00] := by decide

theorem witness_AccessorsReadRecordFields :
    fontOk tf = true ∧ Font.records tf = some tfRecords ∧ recordH ∈ tfRecords := by decide

-- The bucket of "h" is 26, and empty.
theorem witness_EmptyInputAndBucketAreNotFound :
    tf.wf = true ∧ (0x68#8).toNat / 4 = 26 ∧ tf.index.get ⟨26, by decide⟩ = 0xFFFF#16 := by decide

theorem witness_ResolverFindsFirstPrefixInTableOrder :
    fontOk tf = true ∧ Font.records tf = some tfRecords
      ∧ Font.resolve tf [0x66, 0x67] = .ok (some 85) := by decide

theorem witness_ResolverReadsAtMost255Bytes : tf.wf = true := by decide

theorem witness_SpaceResult :
    let s := { inPass tf [0x20] with phase := .pass1 .right false, n := 5, mwEff := 8 }
    (s.par.wf = true ∧ s.phase.inPass = true ∧ 0 < s.mwEff.toInt
        ∧ s.mwEff.toInt ≤ (s.n + 3#32).toInt)
      ∧ answers .sp s (fun t => t.phase == .shift .right false) = true
      ∧ (inPass tf [0x20]).phase.inPass = true
      ∧ ¬ (0 < ({ s with mwEff := 9 } : State).mwEff.toInt ∧ (9#32).toInt ≤ (s.n + 3#32).toInt) := by
  decide

theorem witness_KernResetResult :
    (inPass tf [0x1F]).par.wf = true ∧ (inPass tf [0x1F]).phase.inPass = true := by decide

theorem witness_SkipResult :
    (inPass tf [0x7F]).par.wf = true ∧ (inPass tf [0x7F]).phase.inPass = true := by decide

-- "1" under TABULAR, once with room (mw_eff = 5) and once without (mw_eff = 4, T20, T22).
theorem witness_GlyphResult :
    let s := { inPass tf [0x31] with tab := true, mwEff := 5 }
    s.par.wf = true ∧ Font.records s.par = some tfRecords ∧ record1 ∈ tfRecords
      ∧ record1.off = (25 : Offset).toNat ∧ s.phase.inPass = true
      ∧ answers (.glyph 25) s (fun t => t.n == 5 && t.phase == .pass2 false) = true
      ∧ answers (.glyph 25) { s with mwEff := 4 } 
          (fun t => t.n == 0 && t.phase == .done (.layout false)) = true := by decide

theorem witness_TokenFrame :
    (inPass tf [0x20]).par.wf = true
      ∧ answers .sp (inPass tf [0x20]) (fun _ => true) = true
      ∧ answers .kr (inPass tf [0x1F]) (fun _ => true) = true
      ∧ answers (.skip 0x7F) (inPass tf [0x7F]) (fun _ => true) = true
      ∧ answers (.glyph 54) (inPass tf [0x48]) (fun _ => true) = true := by decide

-- A token while idle; a command inside a pass and in CHECK; the offset 105, inside the record of "ä",
-- where the bytes read as a record with an empty bitmap.
theorem witness_RefusalsByName :
    tf.wf = true ∧ (isCommand .kr = false ∧ (start tf [] 0).phase.inPass = false)
      ∧ (isCommand .resolve = true ∧ (inPass tf []).phase ≠ .idle)
      ∧ ((start tf [] 0).startCommand .resolve).phase ≠ .idle
      ∧ (let s := inPass tf [0x41]
         s.par.wf = true ∧ s.phase.inPass = true ∧ s.tab = false ∧ (5 : Byte) ≠ 0
          ∧ Font.keyLen s.par (105 : Offset).toNat = .ok 5
          ∧ Font.keyByte s.par (105 : Offset).toNat 0 = .ok 0x20
          ∧ Font.blf s.par (105 : Offset).toNat = .ok 0 ∧ (0 : Byte).toNat % 128 = 0) := by decide

theorem witness_WrappingTextIsIllegal :
    let s := { State.powerOn tf 0 with textBase := 0xFFFF, textLen := 2 }
    s.par.wf = true ∧ s.phase = .idle ∧ 65536 < s.textBase.toNat + s.textLen.toNat := by decide

-- "fi" is found at 76; "h" is not found. TEXT_BASE + TEXT_LEN may be 65536 exactly.
theorem witness_ResolveResult :
    let s := start tf [0x66, 0x69] 0
    s.par.wf = true ∧ Font.records s.par = some tfRecords ∧ s.phase = .idle
      ∧ s.textBase.toNat + s.textLen.toNat ≤ 65536
      ∧ (Ref.find tfRecords (commandText s)).map (·.off) = some 76
      ∧ Ref.find tfRecords (commandText (start tf [0x68] 0)) = none
      ∧ (0xFFFE#16).toNat + s.textLen.toNat ≤ 65536
      ∧ 65536 < ({ s with textBase := 0xFFFF } : State).textBase.toNat + s.textLen.toNat := by decide

-- S1: the reference gives 9 as well, and 25 events.
theorem witness_LayoutLeftRefinesReference :
    let s := start tf [0x48, 0x49] 0
    s.par.wf = true ∧ Font.records s.par = some tfRecords ∧ s.phase = .idle
      ∧ s.textBase.toNat + s.textLen.toNat ≤ 65536
      ∧ 65536 < ({ s with textBase := 0xFFFF } : State).textBase.toNat + s.textLen.toNat
      ∧ (Ref.layout s tfRecords .left false false).1 = 9
      ∧ (Ref.layout s tfRecords .left false false).2.2.length = 25 := by decide

-- A2 and A3: the reference gives 8 and 5, and 9 with ten events.
theorem witness_LayoutAlignedRefinesReference :
    let s := start tf [0x41, 0x20] 20
    s.par.wf = true ∧ Font.records s.par = some tfRecords ∧ s.phase = .idle
      ∧ s.textBase.toNat + s.textLen.toNat ≤ 65536
      ∧ 65536 < ({ s with textBase := 0xFFFF } : State).textBase.toNat + s.textLen.toNat
      ∧ (Ref.layout s tfRecords .right false false).1 = 8
      ∧ (Ref.layout s tfRecords .right false false).2.1 = 5
      ∧ (Ref.layout (start tf [0x48, 0x49] 0) tfRecords .center false false).2.2.length = 10 := by
  decide

theorem witness_WrapperResult :
    (State.powerOn tf 128).par.wf = true ∧ (State.powerOn tf 128).phase = .idle := by decide

theorem witness_WrapperEqualsItsExpansion :
    (State.powerOn tf 128).par.wf = true ∧ (State.powerOn tf 128).phase = .idle := by decide

theorem witness_LayoutFrame :
    (start tf [0x31] 0).par.wf = true
      ∧ answers (layoutInstr .left true true) (start tf [0x31] 0) (fun _ => true) = true
      ∧ answers (layoutInstr .right false false) (start tf [0x48] 9) (fun _ => true) = true
      ∧ answers (layoutInstr .center false false) (start tf [0x48] 9) (fun _ => true) = true := by
  decide

theorem witness_WrapperFrame :
    (State.powerOn tf 128).par.wf = true
      ∧ answers (.textLeft 0 0 1 2 3) (State.powerOn tf 128) (fun _ => true) = true
      ∧ answers (.textCentered 0 0 1 2 3) (State.powerOn tf 128) (fun _ => true) = true := by decide

theorem witness_ResolveFrame :
    (start tf [0x67] 0).par.wf = true
      ∧ answers .resolve (start tf [0x67] 0) (fun _ => true) = true := by decide

theorem witness_NoInstructionWritesTextOrParameters :
    (start tf [0x31, 0x30] 21).par.wf = true
      ∧ answers (.layoutC true false) (start tf [0x31, 0x30] 21) (fun _ => true) = true := by decide

theorem witness_OnlyResolveWritesItsResults :
    tf.wf = true ∧ Instr.layoutL false false ≠ .resolve
      ∧ answers (.layoutL false false) { start tf [0x48] 0 with resOff := 54, found := true }
          (fun t => t.resOff == 54 && t.found) = true := by decide

theorem witness_IllegalIsSticky :
    (start tf [0x48] 0).par.wf = true
      ∧ steps { start tf [0x48] 0 with illegal := true, host := [.regWrite 0 0x20] }
        (fun t => t.illegal && t.found) = true := by decide

theorem witness_CommandsStayWithinStepBound : (start tf [0x48] 20).par.wf = true := by decide

-- A command that completes in seven ticks, and one that is Illegal in one.
theorem witness_CommandIsARunOfSteps :
    let s := start tf [0x48] 20
    (s.par.wf = true ∧ s.phase = .idle)
      ∧ (nextState? (Sys2Proof.core.run 7 { s with phase := .check (.layout .center false false) })).map
          (fun t => (t.phase, t.widthUsed)) = some (.idle, 5)
      ∧ (nextState? (Sys2Proof.core.run 1
          { s with textBase := 0xFFFF, textLen := 2, phase := .check .resolve })).map
          (fun t => (t.phase, t.illegal)) = some (.idle, true) := by decide

theorem witness_WidthIndependentOfDrawing :
    (start tf [0x48, 0x49] 20).par.wf = true
      ∧ answers (layoutInstr .right false false) (start tf [0x48, 0x49] 20)
        (fun t => t.widthUsed == 9) = true := by decide

theorem witness_NoHiddenStateBetweenCommands :
    let s := start tf [0x48, 0x49] 20
    let s' := { s with n := 5, t := 7, pd := true, n1 := 99, widthUsed := 3, pixels := [⟨1, 1⟩] }
    (s.par.wf = true ∧ s.phase = .idle ∧ s'.phase = .idle ∧ s'.textBase = s.textBase
        ∧ s'.textLen = s.textLen ∧ s'.x = s.x ∧ s'.y = s.y ∧ s'.maxw = s.maxw ∧ s'.text = s.text
        ∧ s'.par = s.par ∧ s'.surfW = s.surfW)
      ∧ s.textBase.toNat + s.textLen.toNat ≤ 65536
      ∧ answers (layoutInstr .center false false) s (fun _ => true) = true
      ∧ answers .resolve s (fun t => t.found && t.resOff == 54) = true
      ∧ 65536 < ({ s with textBase := 0xFFFF } : State).textBase.toNat + s.textLen.toNat := by decide

-- MAXW positive and the text truncated; NATURAL positive; MAXW not positive.
theorem witness_WidthStaysWithinMaxWidth :
    (let s := start tf [0x48, 0x49] 8
     s.par.wf = true ∧ s.textBase.toNat + s.textLen.toNat ≤ 65536 ∧ 0 < s.maxw.toInt
      ∧ answers (layoutInstr .center false false) s (fun t => 0 < t.natural.toInt) = true)
      ∧ (let s := start tf [0x48, 0x49] 0xFFFB
         s.maxw.toInt ≤ 0 ∧ answers (layoutInstr .left false false) s (fun t => t.cur == 2) = true) := by
  decide

theorem witness_AlignedOriginAndBound :
    let s := start tf [0x48, 0x49] 20
    s.par.wf = true ∧ s.textBase.toNat + s.textLen.toNat ≤ 65536
      ∧ answers (.layoutR false false) s (fun t => t.xEff == 11 && t.mwEff == 9) = true
      ∧ answers (.layoutC false false) s (fun t => t.xEff == 5 && t.mwEff == 9) = true := by decide

-- A4: "X" in 3.
theorem witness_ZeroMeasureDrawsUnbounded :
    let s := start tf [0x58] 3
    s.par.wf = true ∧ Align.center ≠ .left ∧ s.textBase.toNat + s.textLen.toNat ≤ 65536
      ∧ answers (layoutInstr .center false false) s
          (fun t => t.natural == 0 && t.widthUsed == 5) = true := by decide

-- A2 loses the space, A1 loses nothing.
theorem witness_SecondPassLosesAtMostASpace :
    let s := start tf [0x41, 0x20] 20
    s.par.wf = true ∧ Align.right ≠ .left ∧ s.textBase.toNat + s.textLen.toNat ≤ 65536
      ∧ answers (layoutInstr .right false false) s
          (fun t => 0 < t.natural.toInt && t.widthUsed.toInt == t.natural.toInt - 3) = true
      ∧ answers (layoutInstr .right false false) (start tf [0x48, 0x49] 20)
          (fun t => 0 < t.natural.toInt && t.widthUsed == t.natural) = true := by decide

-- CL2: "I" at X = 126 on a surface of 128.
theorem witness_EventsLieOnTheSurface :
    (start tf [0x49] 0).par.wf = true
      ∧ answers (layoutInstr .left false false) { start tf [0x49] 0 with x := 126 }
        (fun t => t.pixels.length == 8) = true := by decide

-- In TF every digit uses at most 5 columns, TABULAR or not.
theorem witness_EventsLieWithinTheWidthUsed :
    let s := start tf [0x31, 0x30] 0
    s.par.wf = true ∧ Font.records s.par = some tfRecords
      ∧ (∀ r ∈ tfRecords, Ref.digit r = true →
        (Font.recordColumns s.par.col16 (Ref.used s.par tfRecords true r)).length ≤ 5)
      ∧ s.textBase.toNat + s.textLen.toNat ≤ 65536
      ∧ answers (layoutInstr .left true false) s (fun t => t.pixels.length == 23) = true := by decide

-- Idle, and inside a bounded pass with the pen at its bound.
theorem witness_StepKeepsInvariant :
    (start tf [0x48] 9).par.wf = true ∧ Inv (start tf [0x48] 9)
      ∧ steps (start tf [0x48] 9) (fun _ => true) = true
      ∧ (let s := { inPass tf [0x48, 0x49] with cur := 1, n := 5, t := 63, mwEff := 9 }
         Inv s ∧ steps s (fun t => t.n == 9) = true) := by decide

theorem witness_StepAlwaysProgresses :
    let s := { inPass tf [0x48, 0x49] with cur := 1, n := 5, t := 63 }
    s.par.wf = true ∧ midCommandOk s := by decide

end Sys2Proof.Tests
end

/-! ### The arithmetic of `floor2` -/

namespace Sys2Proof.Machine

/-- R8: the sign-extending shift by one is the division of the signed value by two that rounds
down (`Int`'s `/` is the floor for a positive divisor). -/
@[simp] theorem toInt_floor2 (v : Word) : (floor2 v).toInt = v.toInt / 2 :=
  calc (floor2 v).toInt
      = v.toInt >>> (1 : Nat) := BitVec.toInt_sshiftRight
    _ = v.toInt / 2 := Int.shiftRight_eq_div_pow v.toInt 1

/-- Settles O27, by the signed reading of the arithmetic shift. -/
theorem floorHalfRoundsDown : Obligations.FloorHalfRoundsDown := toInt_floor2

end Sys2Proof.Machine

/-! ### Frames: what tokens, ticks and commands leave unchanged -/

namespace Sys2Proof.Machine

open Host (Outcome)

/-- What a text token leaves unchanged: the host registers, the pass's origin, bound and options,
text memory, the parameters and the ports other than the pixel events (R42, R174 to R189). -/
structure TokenKeeps (s t : State) : Prop where
  illegal : t.illegal = s.illegal
  found : t.found = s.found
  textBase : t.textBase = s.textBase
  textLen : t.textLen = s.textLen
  x : t.x = s.x
  y : t.y = s.y
  maxw : t.maxw = s.maxw
  widthUsed : t.widthUsed = s.widthUsed
  natural : t.natural = s.natural
  resOff : t.resOff = s.resOff
  resInfo : t.resInfo = s.resInfo
  xEff : t.xEff = s.xEff
  mwEff : t.mwEff = s.mwEff
  measEff : t.measEff = s.measEff
  tab : t.tab = s.tab
  n1 : t.n1 = s.n1
  text : t.text = s.text
  par : t.par = s.par
  surfW : t.surfW = s.surfW
  reads : t.reads = s.reads
  host : t.host = s.host

/-- The end of a pass changes the phase only (R250). -/
theorem endPass_tokenKeeps (s : State) : TokenKeeps s s.endPass := by
  constructor <;> simp

theorem execToken_keeps {i : Instr} {s t : State} (h : execToken i s = .next t) :
    TokenKeeps s t := by
  cases i with
  | sp =>
    obtain ⟨-, ⟨-, rfl⟩ | ⟨-, rfl⟩⟩ := execSp_next h
    · exact endPass_tokenKeeps s
    · constructor <;> rfl
  | kr =>
    obtain ⟨-, rfl⟩ := execKr_next h
    constructor <;> rfl
  | skip b =>
    obtain ⟨-, rfl⟩ := execSkip_next (b := b) h
    constructor <;> rfl
  | glyph o =>
    obtain ⟨-, d, -, ⟨-, rfl⟩ | ⟨-, rfl⟩⟩ := execGlyph_next h
    · constructor <;> simp [glyphScratch]
    · constructor <;> rfl
  | _ => exact absurd h (by simp [execToken])

/-- A token appends pixel events, none in a pass that only measures (R185, R218). -/
theorem execToken_pixels {i : Instr} {s t : State} (h : execToken i s = .next t) :
    ∃ es, t.pixels = s.pixels ++ es ∧ (s.measEff = true → es = []) := by
  cases i with
  | sp =>
    obtain ⟨-, ⟨-, rfl⟩ | ⟨-, rfl⟩⟩ := execSp_next h <;> exact ⟨[], by simp⟩
  | kr =>
    obtain ⟨-, rfl⟩ := execKr_next h
    exact ⟨[], by simp⟩
  | skip b =>
    obtain ⟨-, rfl⟩ := execSkip_next (b := b) h
    exact ⟨[], by simp⟩
  | glyph o =>
    obtain ⟨-, d, -, ⟨-, rfl⟩ | ⟨-, rfl⟩⟩ := execGlyph_next h
    · exact ⟨[], by simp [glyphScratch]⟩
    · exact ⟨if s.measEff then [] else glyphEvents s d, rfl, fun hm => if_pos hm⟩
  | _ => exact absurd h (by simp [execToken])

/-- A token stays in its pass or ends it (R193). -/
theorem execToken_phase {i : Instr} {s t : State} (h : execToken i s = .next t) :
    t.phase = s.phase ∨ t.phase = afterPass s.phase := by
  cases i with
  | sp =>
    obtain ⟨-, ⟨-, rfl⟩ | ⟨-, rfl⟩⟩ := execSp_next h
    · exact .inr (by simp)
    · exact .inl rfl
  | kr =>
    obtain ⟨-, rfl⟩ := execKr_next h
    exact .inl rfl
  | skip b =>
    obtain ⟨-, rfl⟩ := execSkip_next (b := b) h
    exact .inl rfl
  | glyph o =>
    obtain ⟨-, d, -, ⟨-, rfl⟩ | ⟨-, rfl⟩⟩ := execGlyph_next h
    · exact .inr (by simp [glyphScratch])
    · exact .inl rfl
  | _ => exact absurd h (by simp [execToken])

/-- What no tick of a command changes, and that none clears ILLEGAL (R34, R42, R46, R64). -/
structure TickKeeps (s t : State) : Prop where
  textBase : t.textBase = s.textBase
  textLen : t.textLen = s.textLen
  x : t.x = s.x
  y : t.y = s.y
  maxw : t.maxw = s.maxw
  text : t.text = s.text
  par : t.par = s.par
  surfW : t.surfW = s.surfW
  reads : t.reads = s.reads
  host : t.host = s.host
  illegal : s.illegal = true → t.illegal = true

theorem TickKeeps.refl (s : State) : TickKeeps s s := by
  constructor <;> simp

theorem TickKeeps.trans {s t u : State} (h : TickKeeps s t) (h' : TickKeeps t u) :
    TickKeeps s u where
  textBase := h'.textBase.trans h.textBase
  textLen := h'.textLen.trans h.textLen
  x := h'.x.trans h.x
  y := h'.y.trans h.y
  maxw := h'.maxw.trans h.maxw
  text := h'.text.trans h.text
  par := h'.par.trans h.par
  surfW := h'.surfW.trans h.surfW
  reads := h'.reads.trans h.reads
  host := h'.host.trans h.host
  illegal hi := h'.illegal (h.illegal hi)

theorem TokenKeeps.tickKeeps {s t : State} (h : TokenKeeps s t) : TickKeeps s t where
  textBase := h.textBase
  textLen := h.textLen
  x := h.x
  y := h.y
  maxw := h.maxw
  text := h.text
  par := h.par
  surfW := h.surfW
  reads := h.reads
  host := h.host
  illegal hi := h.illegal.trans hi

theorem checkCommand_keeps (s : State) (c : Command) : TickKeeps s (s.checkCommand c) := by
  rcases checkCommand_cases s c with
    ⟨-, h⟩ | ⟨-, ⟨-, h⟩ | ⟨tb, m, -, h⟩ | ⟨tb, m, -, h⟩ | ⟨tb, m, -, h⟩⟩ <;>
  · rw [h]
    constructor <;> simp

theorem finish_keeps (s : State) (r : Completion) : TickKeeps s (s.finish r) := by
  cases r <;> constructor <;> simp [State.finish]

theorem micro_keeps {s t : State} (h : micro s = .next t) : TickKeeps s t := by
  rcases micro_next h with
    ⟨-, rfl⟩ | ⟨c, -, rfl⟩ | ⟨-, rfl⟩ | ⟨mode, m, -, rfl⟩ | ⟨-, hr⟩ | ⟨r, -, rfl⟩
  · exact .refl _
  · exact checkCommand_keeps s c
  · exact (endPass_tokenKeeps s).tickKeeps
  · constructor <;> simp
  · obtain ⟨-, r, -, rfl⟩ := resolveRun_next hr
    constructor <;> simp
  · exact finish_keeps s r

theorem tick_keeps {s t : State} (h : tick s = .next t) : TickKeeps s t := by
  rcases tick_next h with ⟨i, -, ht⟩ | ⟨-, hm⟩
  · exact (execToken_keeps ht).tickKeeps
  · exact micro_keeps hm

theorem command_keeps {c : Command} {s t : State} (h : command c s = .next t) : TickKeeps s t :=
  have start : TickKeeps s (s.startCommand c) := by constructor <;> simp
  (runCommand_induction (P := TickKeeps s) (fun _ _ _ hk ht => hk.trans (tick_keeps ht)) start
    (command_next h).2).1

/-! ### The run of a LAYOUT command -/

/-- A phase that carries the option MEASURE_ONLY carries `m` (R215, log 6). -/
def carriesOption (m : Bool) : Phase → Prop
  | .pass1 _ m' => m' = m
  | .shift _ m' => m' = m
  | _ => True

/-- A LAYOUT command with option `m`, legal and begun in `s`, has come to `t`: it is in one of its
own phases or complete, RESOLVE's results and ILLEGAL are as they were, and pixel events were only
appended, none under MEASURE_ONLY (R43, R215, R218). -/
structure LayoutRun (m : Bool) (s t : State) : Prop where
  phase : scanning t.phase = true ∨ t.phase = .idle
  illegal : t.illegal = s.illegal
  found : t.found = s.found
  resOff : t.resOff = s.resOff
  resInfo : t.resInfo = s.resInfo
  carries : carriesOption m t.phase
  measures : m = true → t.measEff = true
  pixels : ∃ es, t.pixels = s.pixels ++ es ∧ (m = true → es = [])

/-- The end of a pass, and what a phase after it carries. -/
theorem afterPass_layout {m : Bool} {ph : Phase} (h : ph.inPass = true)
    (hc : carriesOption m ph) :
    scanning (afterPass ph) = true ∧ carriesOption m (afterPass ph) := by
  cases ph <;> simp_all [Phase.inPass, afterPass, scanning, carriesOption]

theorem LayoutRun.token {m : Bool} {s u t : State} {i : Instr} (hr : LayoutRun m s u)
    (h : execToken i u = .next t) : LayoutRun m s t := by
  have keeps := execToken_keeps h
  have hpass := execToken_inPass h
  have hphase : (scanning t.phase = true ∨ t.phase = .idle) ∧ carriesOption m t.phase := by
    rcases execToken_phase h with hp | hp <;> rw [hp]
    · exact ⟨hr.phase, hr.carries⟩
    · exact (afterPass_layout hpass hr.carries).imp_left .inl
  obtain ⟨es, hes, hm⟩ := hr.pixels
  obtain ⟨es', hes', hm'⟩ := execToken_pixels h
  exact
    { phase := hphase.1
      illegal := keeps.illegal.trans hr.illegal
      found := keeps.found.trans hr.found
      resOff := keeps.resOff.trans hr.resOff
      resInfo := keeps.resInfo.trans hr.resInfo
      carries := hphase.2
      measures := fun h => keeps.measEff.trans (hr.measures h)
      pixels := ⟨es ++ es', by rw [hes', hes, List.append_assoc],
        fun h => by rw [hm h, hm' (hr.measures h), List.append_nil]⟩ }

theorem LayoutRun.micro {m : Bool} {s u t : State} (hr : LayoutRun m s u)
    (hb : u.phase ≠ .idle) (h : micro u = .next t) : LayoutRun m s t := by
  have hphase := hr.phase
  have hcarries := hr.carries
  rcases micro_next h with
    ⟨hp, -⟩ | ⟨c, hp, -⟩ | ⟨hp, rfl⟩ | ⟨mode, m', hp, rfl⟩ | ⟨hp, -⟩ | ⟨r, hp, rfl⟩
  · exact absurd hp hb
  · simp [hp, scanning] at hphase
  · obtain ⟨hs, hc⟩ := afterPass_layout hp hr.carries
    exact { hr with
      phase := by simp [hs], illegal := by simp [hr.illegal], found := by simp [hr.found],
      resOff := by simp [hr.resOff], resInfo := by simp [hr.resInfo], carries := by simp [hc],
      measures := by simpa using hr.measures, pixels := by simpa using hr.pixels }
  · obtain rfl : m' = m := by simpa [hp, carriesOption] using hcarries
    exact { hr with phase := .inl rfl, carries := trivial, measures := id }
  · simp [hp, scanning] at hphase
  · cases r with
    | layout aligned => exact { hr with phase := .inr rfl, carries := trivial }
    | resolve hit => simp [hp, scanning] at hphase

theorem LayoutRun.tick {m : Bool} {s u t : State} (hr : LayoutRun m s u) (hb : u.phase ≠ .idle)
    (h : tick u = .next t) : LayoutRun m s t := by
  rcases tick_next h with ⟨i, -, ht⟩ | ⟨-, hm⟩
  · exact hr.token ht
  · exact hr.micro hb hm

/-- The phase of a LAYOUT command's first pass (R211, R214). -/
def firstPass (al : Align) (m : Bool) : Phase :=
  match al with
  | .left => .pass2 false
  | .right => .pass1 .right m
  | .center => .pass1 .center m

/-- The first pass of an aligned layout measures, that of LAYOUT.L by its option (R211, R214). -/
def firstPassMeasures (al : Align) (m : Bool) : Bool :=
  match al with
  | .left => m
  | .right => true
  | .center => true

/-- CHECK of a LAYOUT command whose text does not wrap starts its first pass. -/
theorem checkCommand_layout {s : State} (al : Align) (tb m : Bool) (hw : textWraps s = false) :
    (s.startCommand (.layout al tb m)).checkCommand (.layout al tb m) =
      s.startLayout (firstPass al m) tb (firstPassMeasures al m) := by
  have hw' : textWraps (s.startCommand (.layout al tb m)) = false := hw
  cases al <;> simp only [State.checkCommand, hw'] <;> rfl

theorem scanning_firstPass (al : Align) (m : Bool) : scanning (firstPass al m) = true := by
  cases al <;> rfl

theorem carriesOption_firstPass (al : Align) (m : Bool) : carriesOption m (firstPass al m) := by
  cases al <;> simp [firstPass, carriesOption]

theorem firstPassMeasures_of_measureOnly (al : Align) : firstPassMeasures al true = true := by
  cases al <;> rfl

/-- A LAYOUT command's first pass is the start of its run. -/
theorem LayoutRun.start (s : State) (al : Align) (tb m : Bool) :
    LayoutRun m s (s.startLayout (firstPass al m) tb (firstPassMeasures al m)) where
  phase := .inl (scanning_firstPass al m)
  illegal := rfl
  found := rfl
  resOff := rfl
  resInfo := rfl
  carries := carriesOption_firstPass al m
  measures := fun hm => by rw [hm]; exact firstPassMeasures_of_measureOnly al
  pixels := ⟨[], by simp⟩

/-- Everything a LAYOUT command can do to the registers it does not own: Illegal, or a run. -/
theorem layout_next {al : Align} {tb m : Bool} {s t : State}
    (h : command (.layout al tb m) s = .next t) :
    (textWraps s = true ∧ t = s.raiseIllegal) ∨ (textWraps s = false ∧ LayoutRun m s t) := by
  have hi := (command_next h).1
  cases hw : textWraps s with
  | true => exact .inl ⟨rfl, by simpa [command_illegal _ hi hw] using h.symm⟩
  | false =>
    rw [command_legal _ hi, checkCommand_layout al tb m hw] at h
    exact .inr ⟨rfl, (runCommand_induction (P := LayoutRun m s) (fun _ _ hb hr => hr.tick hb)
      (.start s al tb m) h).1⟩

/-- A LAYOUT command leaves RESOLVE's results alone (R43). -/
theorem layout_keeps_results {al : Align} {tb m : Bool} {s t : State}
    (h : command (.layout al tb m) s = .next t) :
    t.found = s.found ∧ t.resOff = s.resOff ∧ t.resInfo = s.resInfo := by
  rcases layout_next h with ⟨-, rfl⟩ | ⟨-, hr⟩
  · exact ⟨rfl, rfl, rfl⟩
  · exact ⟨hr.found, hr.resOff, hr.resInfo⟩

/-- R65 as arithmetic. -/
theorem textWraps_eq_false {s : State} :
    textWraps s = false ↔ s.textBase.toNat + s.textLen.toNat ≤ 65536 := by
  simp [textWraps]

theorem textWraps_eq_true {s : State} :
    textWraps s = true ↔ 65536 < s.textBase.toNat + s.textLen.toNat := by
  simp [textWraps]

theorem layout_keeps_illegal {al : Align} {tb m : Bool} {s t : State}
    (h : command (.layout al tb m) s = .next t) (hw : textWraps s = false) :
    t.illegal = s.illegal := by
  rcases layout_next h with ⟨hw', -⟩ | ⟨-, hr⟩
  · simp [hw] at hw'
  · exact hr.illegal

theorem layout_appends_pixels {al : Align} {tb m : Bool} {s t : State}
    (h : command (.layout al tb m) s = .next t) :
    ∃ es, t.pixels = s.pixels ++ es ∧ (m = true → es = []) := by
  rcases layout_next h with ⟨-, rfl⟩ | ⟨-, hr⟩
  · exact ⟨[], by simp⟩
  · exact hr.pixels

/-! ### What executing an instruction comes to -/

/-- `exec` of a LAYOUT instruction or RESOLVE is its command (R92). -/
theorem exec_commandInstr (c : Command) (s : State) : exec (commandInstr c) s = command c s := by
  rcases c with ⟨_ | _ | _, tb, m⟩ | _ <;> rfl

theorem exec_layoutInstr (al : Align) (tb m : Bool) (s : State) :
    exec (layoutInstr al tb m) s = command (.layout al tb m) s :=
  exec_commandInstr (.layout al tb m) s

/-- `exec` of any instruction is a token, a command, or a wrapper around a LAYOUT command. -/
theorem exec_next {i : Instr} {s t : State} (h : exec i s = .next t) :
    execToken i s = .next t ∨ (∃ c, i = commandInstr c ∧ command c s = .next t) ∨
      ∃ al base len x y w, wrapper al base len x y w s = .next t := by
  cases i with
  | layoutL tb m => exact .inr (.inl ⟨.layout .left tb m, rfl, h⟩)
  | layoutR tb m => exact .inr (.inl ⟨.layout .right tb m, rfl, h⟩)
  | layoutC tb m => exact .inr (.inl ⟨.layout .center tb m, rfl, h⟩)
  | resolve => exact .inr (.inl ⟨.resolve, rfl, h⟩)
  | textLeft base len x y w => exact .inr (.inr ⟨.left, base, len, x, y, w, h⟩)
  | textCentered base len x y w => exact .inr (.inr ⟨.center, base, len, x, y, w, h⟩)
  | sp | kr | glyph o | skip b => exact .inl h

/-! ### The frame statements -/

/-- Settles O32: each token by its own inversion, over what every token leaves. -/
theorem tokenFrame : Obligations.TokenFrame := by
  intro s t i _ hi h
  have htok : execToken i s = .next t := by
    rcases hi with rfl | rfl | ⟨b, rfl⟩ | ⟨o, rfl⟩ <;> exact h
  have keeps := execToken_keeps htok
  refine ⟨⟨keeps.illegal, keeps.found, keeps.textBase, keeps.textLen, keeps.x, keeps.y, keeps.maxw,
      keeps.widthUsed, keeps.natural, keeps.resOff, keeps.resInfo⟩,
    ⟨keeps.xEff, keeps.mwEff, keeps.measEff, keeps.tab, keeps.n1⟩,
    ⟨keeps.par, keeps.surfW, keeps.reads, keeps.host, fun a => by rw [keeps.text]⟩, ?_⟩
  rcases hi with rfl | rfl | ⟨b, rfl⟩ | ⟨o, rfl⟩
  · obtain ⟨-, ⟨-, rfl⟩ | ⟨-, rfl⟩⟩ := execSp_next htok <;> simp
  · obtain ⟨-, rfl⟩ := execKr_next htok
    simp
  · obtain ⟨-, rfl⟩ := execSkip_next (b := b) htok
    simp
  · simp

/-- Settles O40, by the invariant of a LAYOUT command's run. -/
theorem layoutFrame : Obligations.LayoutFrame := by
  intro s t al tb m _ h
  rw [exec_layoutInstr] at h
  have keeps := command_keeps h
  exact ⟨⟨keeps.textBase, keeps.textLen, keeps.x, keeps.y, keeps.maxw⟩, layout_keeps_results h,
    fun a => by rw [keeps.text], ⟨keeps.par, keeps.surfW, keeps.reads, keeps.host⟩,
    fun hw => layout_keeps_illegal h (textWraps_eq_false.2 hw), layout_appends_pixels h,
    command_idle h⟩

/-- The frame of a wrapper with any alignment: its writes, and the frame of its LAYOUT command. -/
theorem wrapper_frame {al : Align} {addr len x y w : Word} {s t : State}
    (h : wrapper al addr len x y w s = .next t) :
    (t.textBase = addr.setWidth 16 ∧ t.textLen = len.setWidth 16 ∧ t.x = x.setWidth 16 ∧
        t.y = y.setWidth 16 ∧ t.maxw = w.setWidth 16) ∧
      (t.found = s.found ∧ t.resOff = s.resOff ∧ t.resInfo = s.resInfo) ∧
      (∀ a, Memory.read t.text a = Memory.read s.text a) ∧
      (t.par = s.par ∧ t.surfW = s.surfW ∧ t.reads = s.reads ++ [t.widthUsed] ∧ t.host = s.host) ∧
      (t.textBase.toNat + t.textLen.toNat ≤ 65536 → t.illegal = s.illegal) ∧
      (∃ es, t.pixels = s.pixels ++ es) ∧ t.phase = .idle := by
  obtain ⟨-, u, hu, rfl⟩ := wrapper_next h
  have keeps := command_keeps hu
  obtain ⟨es, hes, -⟩ := layout_appends_pixels hu
  refine ⟨by simp [keeps.textBase, keeps.textLen, keeps.x, keeps.y, keeps.maxw],
    by simpa using layout_keeps_results hu, by simp [keeps.text],
    by simp [keeps.par, keeps.surfW, keeps.reads, keeps.host, regValue], fun hw => ?_,
    ⟨es, by simpa using hes⟩, by simpa using command_idle hu⟩
  have hlegal : textWraps (s.writeOperands addr len x y w) = false := by
    simpa [textWraps_eq_false, keeps.textBase, keeps.textLen] using hw
  simpa using layout_keeps_illegal hu hlegal

/-- Settles O41: both wrappers have the frame of their LAYOUT command. -/
theorem wrapperFrame : Obligations.WrapperFrame := by
  intro s t addr len x y w _ h
  rcases h with h | h <;> exact wrapper_frame h

/-- Settles O42: RESOLVE is Illegal or the resolver's result handed to DONE. -/
theorem resolveFrame : Obligations.ResolveFrame := by
  intro s t _ h
  have keeps : TickKeeps s t := command_keeps h
  refine ⟨?_, fun hw => ?_, fun a => by rw [keeps.text]⟩
  · obtain ⟨hi, ⟨-, rfl⟩ | ⟨-, r, -, rfl⟩⟩ := execResolve_next h <;>
    · cases s
      cases hi
      rfl
  · obtain ⟨-, ⟨hw', -⟩ | ⟨-, r, -, rfl⟩⟩ := execResolve_next h
    · exact absurd (textWraps_eq_true.1 hw') (Nat.not_lt.2 hw)
    · rfl

/-- Settles O43, over the three things an instruction can come to. -/
theorem noInstructionWritesTextOrParameters : Obligations.NoInstructionWritesTextOrParameters := by
  intro s t i _ h
  rcases exec_next h with ht | ⟨c, -, hc⟩ | ⟨al, base, len, x, y, w, hw⟩
  · have keeps := execToken_keeps ht
    exact ⟨fun a => by rw [keeps.text], keeps.par, keeps.surfW⟩
  · have keeps := command_keeps hc
    exact ⟨fun a => by rw [keeps.text], keeps.par, keeps.surfW⟩
  · obtain ⟨-, -, htext, ⟨hpar, hsurf, -, -⟩, -⟩ := wrapper_frame hw
    exact ⟨htext, hpar, hsurf⟩

/-- Settles O44, over the three things an instruction can come to. -/
theorem onlyResolveWritesItsResults : Obligations.OnlyResolveWritesItsResults := by
  intro s t i _ hi h
  rcases exec_next h with ht | ⟨c, rfl, hc⟩ | ⟨al, base, len, x, y, w, hw⟩
  · have keeps := execToken_keeps ht
    exact ⟨keeps.resOff, keeps.resInfo, keeps.found⟩
  · cases c with
    | layout al tb m =>
      obtain ⟨hfound, hoff, hinfo⟩ := layout_keeps_results hc
      exact ⟨hoff, hinfo, hfound⟩
    | resolve => exact absurd rfl hi
  · obtain ⟨-, ⟨hfound, hoff, hinfo⟩, -⟩ := wrapper_frame hw
    exact ⟨hoff, hinfo, hfound⟩

end Sys2Proof.Machine

/-! ### Commands as runs of ticks, and the bound on their length (R41, R221, R291) -/

namespace Sys2Proof.Machine

open Host (Outcome)

/-- A state that fetches a token has its cursor inside the text (R31, R172). -/
theorem fetch_some_cur_lt {s : State} {i : Instr} (h : fetch s = .next (some i)) :
    s.cur.toNat < s.textLen.toNat := by
  obtain ⟨-, -, c, cs, hr, -⟩ := fetch_some h
  have hlen := congrArg List.length hr
  simp only [remainingText, length_textBytes, List.length_cons] at hlen
  omega

/-- Inside the text the cursor moves on exactly: 17 bits hold it (R31). -/
theorem advance_cur_toNat {s : State} {k : Offset} (hc : s.cur.toNat < 65536)
    (hk : k.toNat ≤ 255) : (s.advance k).cur.toNat = s.cur.toNat + k.toNat := by
  rw [State.advance_cur, BitVec.toNat_add]
  omega

/-- A key length as a cursor offset keeps its value (R143). -/
@[simp] theorem toNat_keyLength (kl : Byte) : (kl.setWidth 17 : Offset).toNat = kl.toNat := by
  simp only [BitVec.toNat_setWidth]
  omega

/-- A token ends its pass, or stays in it and consumes at least one byte (R172, R291). -/
theorem execToken_progress {i : Instr} {s t : State} (h : execToken i s = .next t)
    (hc : s.cur.toNat < 65536) :
    t.phase = afterPass s.phase ∨ (t.phase = s.phase ∧ s.cur.toNat < t.cur.toNat) := by
  have one : s.cur.toNat < (s.advance 1).cur.toNat := by
    rw [advance_cur_toNat hc (by decide)]
    exact Nat.lt_succ_self _
  cases i with
  | sp =>
    obtain ⟨-, ⟨-, rfl⟩ | ⟨-, rfl⟩⟩ := execSp_next h
    · exact .inl (by simp)
    · exact .inr ⟨rfl, one⟩
  | kr =>
    obtain ⟨-, rfl⟩ := execKr_next h
    exact .inr ⟨rfl, one⟩
  | skip b =>
    obtain ⟨-, rfl⟩ := execSkip_next (b := b) h
    exact .inr ⟨rfl, one⟩
  | glyph o =>
    obtain ⟨-, d, hd, ⟨-, rfl⟩ | ⟨-, rfl⟩⟩ := execGlyph_next h
    · exact .inl (by simp [glyphScratch])
    · obtain ⟨-, hkl, -⟩ := glyphData_ok hd
      refine .inr ⟨rfl, ?_⟩
      change s.cur.toNat < (s.advance (d.kl.setWidth 17)).cur.toNat
      have hpos : 0 < d.kl.toNat := by
        simpa [Nat.pos_iff_ne_zero, BitVec.toNat_eq] using hkl
      rw [advance_cur_toNat hc (by rw [toNat_keyLength]; omega), toNat_keyLength]
      omega
  | _ => exact absurd h (by simp [execToken])

/-- An upper bound on the ticks a command still takes: one a text byte and one for each phase still
to come (R291). -/
def ticksLeft (s : State) : Nat :=
  match s.phase with
  | .idle => 0
  | .check _ => 2 * s.textLen.toNat + 5
  | .pass1 _ _ => (s.textLen.toNat - s.cur.toNat) + s.textLen.toNat + 4
  | .shift _ _ => s.textLen.toNat + 3
  | .pass2 _ => (s.textLen.toNat - s.cur.toNat) + 2
  | .resolveRun => 2
  | .done _ => 1

theorem ticksLeft_endPass_lt {s t : State} (hp : s.phase.inPass = true)
    (ht : t.phase = afterPass s.phase) (hl : t.textLen = s.textLen) :
    ticksLeft t < ticksLeft s := by
  unfold ticksLeft
  cases hs : s.phase <;> simp_all [Phase.inPass, afterPass]

theorem ticksLeft_advance_lt {s t : State} (hp : s.phase.inPass = true) (ht : t.phase = s.phase)
    (hl : t.textLen = s.textLen) (hs : s.cur.toNat < s.textLen.toNat)
    (hc : s.cur.toNat < t.cur.toNat) : ticksLeft t < ticksLeft s := by
  unfold ticksLeft
  cases hs : s.phase <;> simp_all [Phase.inPass] <;> omega

theorem ticksLeft_micro_lt {s t : State} (hb : s.phase ≠ .idle) (h : micro s = .next t) :
    ticksLeft t < ticksLeft s := by
  rcases micro_next h with
    ⟨hp, -⟩ | ⟨c, hp, rfl⟩ | ⟨hp, rfl⟩ | ⟨mode, m, hp, rfl⟩ | ⟨hp, hr⟩ | ⟨r, hp, rfl⟩
  · exact absurd hp hb
  · rcases checkCommand_cases s c with
      ⟨-, h⟩ | ⟨-, ⟨-, h⟩ | ⟨tb, m, -, h⟩ | ⟨tb, m, -, h⟩ | ⟨tb, m, -, h⟩⟩ <;>
    · rw [h]
      simp only [ticksLeft, hp, State.raiseIllegal_phase, State.startLayout_phase,
        State.startLayout_textLen]
      omega
  · exact ticksLeft_endPass_lt hp (by simp) (by simp)
  · simp [ticksLeft, hp]
  · obtain ⟨-, r, -, rfl⟩ := resolveRun_next hr
    simp [ticksLeft, hp]
  · cases r <;> simp [ticksLeft, hp, State.finish]

theorem ticksLeft_tick_lt {s t : State} (hb : s.phase ≠ .idle) (h : tick s = .next t) :
    ticksLeft t < ticksLeft s := by
  rcases tick_next h with ⟨i, hf, ht⟩ | ⟨-, hm⟩
  · have hcur := fetch_some_cur_lt hf
    have hpass := execToken_inPass ht
    have hlen := (execToken_keeps ht).textLen
    rcases execToken_progress ht (by omega) with hp | ⟨hp, hc⟩
    · exact ticksLeft_endPass_lt hpass hp hlen
    · exact ticksLeft_advance_lt hpass hp hlen hcur hc
  · exact ticksLeft_micro_lt hb hm

/-- A run of any machine takes its first step, and stops where that step stops. -/
theorem coreRun_succ_next {M : Host.Core} {k : Nat} {s t : M.State} (h : M.step s = .next t) :
    M.run (k + 1) s = M.run k t := by
  simp only [Host.Core.run, h]

theorem coreRun_succ_fault {M : Host.Core} {k : Nat} {s : M.State} {f : M.Fault}
    (h : M.step s = .fault f) : M.run (k + 1) s = .fault f := by
  simp only [Host.Core.run, h]

theorem coreRun_succ_refused {M : Host.Core} {k : Nat} {s : M.State} {r : M.Refusal}
    (h : M.step s = .refused r) : M.run (k + 1) s = .refused r := by
  simp only [Host.Core.run, h]

/-- A run with enough fuel is a run of the machine's steps that ends where the engine is idle, or
where a step stops. -/
theorem runCommand_eq_run {k : Nat} {s : State} (h : ticksLeft s ≤ k) :
    ∃ j, j ≤ k ∧ runCommand k s = Sys2Proof.core.run j s := by
  induction k generalizing s with
  | zero =>
    have hi : s.phase = .idle := by
      cases hp : s.phase <;> simp_all [ticksLeft]
    exact ⟨0, Nat.le_refl 0, runCommand_done hi⟩
  | succ k ih =>
    by_cases hi : s.phase = .idle
    · exact ⟨0, Nat.zero_le _, runCommand_done hi⟩
    · have hstep : Sys2Proof.core.step s = tick s := step_eq_tick hi
      rw [runCommand, if_neg hi]
      cases ht : tick s with
      | next s' =>
        have hlt := ticksLeft_tick_lt hi ht
        obtain ⟨j, hj, hrun⟩ := ih (s := s') (by omega)
        exact ⟨j + 1, by omega, hrun.trans (coreRun_succ_next (hstep.trans ht)).symm⟩
      | fault f => exact ⟨1, by omega, (coreRun_succ_fault (hstep.trans ht)).symm⟩
      | refused r => exact ⟨1, by omega, (coreRun_succ_refused (hstep.trans ht)).symm⟩

/-- Settles O47: the fuel of a command covers the ticks it takes, so its run is that many steps. -/
theorem commandIsARunOfSteps : Obligations.CommandIsARunOfSteps := by
  intro s c _ hi
  have hfuel : ticksLeft (s.startCommand c) ≤ commandFuel s := Nat.le_refl _
  rw [exec_commandInstr, command, if_pos hi]
  exact runCommand_eq_run hfuel

end Sys2Proof.Machine

/-! ### Two runs of a LAYOUT command from the same operands (R44) -/

namespace Sys2Proof.Machine

open Host (Outcome)

/-- The second pass of an aligned layout, which hands `n1` to NATURAL (R216). -/
def keepsFirstPass : Phase → Bool
  | .pass2 aligned => aligned
  | .done (.layout aligned) => aligned
  | _ => false

/-- Two runs of one LAYOUT command, begun in `s` and `s'` with the same operands, have come to `u`
and `u'`: they agree on the operands, on the pass's registers, on `n1` where it is still to be used,
on the results once the engine is idle, and on the pixel events emitted so far. -/
structure LayoutTwins (s s' u u' : State) : Prop where
  textBase : u'.textBase = u.textBase
  textLen : u'.textLen = u.textLen
  text : ∀ a, Memory.read u'.text a = Memory.read u.text a
  par : u'.par = u.par
  x : u'.x = u.x
  y : u'.y = u.y
  maxw : u'.maxw = u.maxw
  surfW : u'.surfW = u.surfW
  n : u'.n = u.n
  t : u'.t = u.t
  pd : u'.pd = u.pd
  xEff : u'.xEff = u.xEff
  mwEff : u'.mwEff = u.mwEff
  measEff : u'.measEff = u.measEff
  tab : u'.tab = u.tab
  cur : u'.cur = u.cur
  phase : u'.phase = u.phase
  n1 : keepsFirstPass u.phase = true → u'.n1 = u.n1
  results : scanning u.phase = true ∨
    (u.phase = .idle ∧ u'.widthUsed = u.widthUsed ∧ u'.natural = u.natural)
  pixels : ∃ es, u.pixels = s.pixels ++ es ∧ u'.pixels = s'.pixels ++ es

/-- Text memories that read the same hold the same run of bytes. -/
theorem textBytes_congr {m m' : Memory} (h : ∀ a, Memory.read m' a = Memory.read m a)
    (base len : Nat) : textBytes m' base len = textBytes m base len := by
  simp only [textBytes, h]

/-- The end of a pass keeps a scanning phase scanning, and does not make `n1` needed. -/
theorem afterPass_scanning {ph : Phase} (h : ph.inPass = true) :
    scanning (afterPass ph) = true ∧
      (keepsFirstPass (afterPass ph) = true → keepsFirstPass ph = true) := by
  cases ph <;> simp_all [Phase.inPass, afterPass, scanning, keepsFirstPass]

theorem keepsFirstPass_firstPass (al : Align) (m : Bool) :
    keepsFirstPass (firstPass al m) = false := by
  cases al <;> rfl

/-- Two runs whose states agree on the phase and stay related tick by tick end related. -/
theorem runCommand_simulation {R : State → State → Prop}
    (phase : ∀ u u', R u u' → u'.phase = u.phase)
    (sim : ∀ u u' t, R u u' → u.phase ≠ .idle → tick u = .next t →
      ∃ t', tick u' = .next t' ∧ R t t') :
    ∀ {k u u' t}, R u u' → runCommand k u = .next t →
      ∃ t', runCommand k u' = .next t' ∧ R t t' := by
  intro k
  induction k with
  | zero =>
    intro u u' t h hr
    by_cases hi : u.phase = .idle
    · rw [runCommand_done hi] at hr
      cases hr
      exact ⟨u', runCommand_done ((phase u u' h).trans hi), h⟩
    · rw [runCommand, if_neg hi] at hr
      cases hr
  | succ k ih =>
    intro u u' t h hr
    by_cases hi : u.phase = .idle
    · rw [runCommand_done hi] at hr
      cases hr
      exact ⟨u', runCommand_done ((phase u u' h).trans hi), h⟩
    · cases hu : tick u with
      | next v =>
        obtain ⟨v', hv', hrel⟩ := sim u u' v h hi hu
        rw [runCommand_step hi hu] at hr
        rw [runCommand_step (by rwa [phase u u' h]) hv']
        exact ih hrel hr
      | fault f =>
        rw [runCommand, if_neg hi, hu] at hr
        cases hr
      | refused r =>
        rw [runCommand, if_neg hi, hu] at hr
        cases hr

namespace LayoutTwins

variable {s s' u u' t : State}

theorem textWraps_eq (h : LayoutTwins s s' u u') : textWraps u' = textWraps u := by
  simp only [textWraps, h.textBase, h.textLen]

theorem remainingText_eq (h : LayoutTwins s s' u u') : remainingText u' = remainingText u := by
  simp only [remainingText, textBytes_congr h.text, h.textBase, h.textLen, h.cur]

theorem fetch_eq (h : LayoutTwins s s' u u') : fetch u' = fetch u := by
  simp only [fetch, h.phase, h.textWraps_eq, h.remainingText_eq, h.par]

theorem inCell_eq (h : LayoutTwins s s' u u') (d : GlyphData) : inCell u' d = inCell u d := by
  simp only [inCell, h.tab]

theorem gapOf_eq (h : LayoutTwins s s' u u') (d : GlyphData) : gapOf u' d = gapOf u d := by
  simp only [gapOf, h.n, h.t, h.tab, h.pd]

theorem glyphEvents_eq (h : LayoutTwins s s' u u') (d : GlyphData) :
    glyphEvents u' d = glyphEvents u d := by
  simp only [glyphEvents, h.surfW, h.y, h.xEff, h.n, h.inCell_eq, h.gapOf_eq]

/-- Both runs end their pass. -/
theorem endPass (h : LayoutTwins s s' u u') (hp : u.phase.inPass = true) :
    LayoutTwins s s' u.endPass u'.endPass where
  textBase := by simp [h.textBase]
  textLen := by simp [h.textLen]
  text := by simp [h.text]
  par := by simp [h.par]
  x := by simp [h.x]
  y := by simp [h.y]
  maxw := by simp [h.maxw]
  surfW := by simp [h.surfW]
  n := by simp [h.n]
  t := by simp [h.t]
  pd := by simp [h.pd]
  xEff := by simp [h.xEff]
  mwEff := by simp [h.mwEff]
  measEff := by simp [h.measEff]
  tab := by simp [h.tab]
  cur := by simp [h.cur]
  phase := by simp [h.phase]
  n1 hk := by simpa using h.n1 ((afterPass_scanning hp).2 (by simpa using hk))
  results := .inl (by simpa using (afterPass_scanning hp).1)
  pixels := by simpa using h.pixels

/-- Both runs move their cursor. -/
theorem advance (h : LayoutTwins s s' u u') (k : Offset) :
    LayoutTwins s s' (u.advance k) (u'.advance k) :=
  { h with cur := by simp [h.cur] }

/-- Both runs set a glyph's working registers; only the cursor among them is read again. -/
theorem glyphScratch (h : LayoutTwins s s' u u') (o : Offset) (d : GlyphData) :
    LayoutTwins s s' (glyphScratch u o d) (glyphScratch u' o d) :=
  { h with cur := by simp [Machine.glyphScratch, h.cur] }

/-- Both runs emit the same events, in a pass that draws or in one that does not. -/
theorem emit (h : LayoutTwins s s' u u') (ps : List Pixel) :
    LayoutTwins s s' (u.emit ps) (u'.emit ps) := by
  obtain ⟨es, hes, hes'⟩ := h.pixels
  refine { h with pixels := ⟨es ++ (if u.measEff then [] else ps), ?_, ?_⟩ }
  · rw [State.emit_pixels, hes, List.append_assoc]
  · rw [State.emit_pixels, hes', h.measEff, List.append_assoc]

/-- A token that the first run executes is executed by the second, with the same effect. -/
theorem token (h : LayoutTwins s s' u u') {i : Instr} (ht : execToken i u = .next t) :
    ∃ t', execToken i u' = .next t' ∧ LayoutTwins s s' t t' := by
  have hpass := execToken_inPass ht
  have hpass' : u'.phase.inPass = true := by rw [h.phase, hpass]
  cases i with
  | sp =>
    refine ⟨spaceEffect u', by simp [execToken, execSp, hpass'], ?_⟩
    obtain ⟨-, ⟨hc, rfl⟩ | ⟨hc, rfl⟩⟩ := execSp_next ht
    · rw [spaceEffect, if_pos (by rw [h.n, h.mwEff, hc])]
      exact h.endPass hpass
    · rw [spaceEffect, if_neg (by simp [h.n, h.mwEff, hc])]
      have hn : LayoutTwins s s' { u with n := u.n + Config.spaceWidth, t := 0 }
          { u' with n := u'.n + Config.spaceWidth, t := 0 } :=
        { h with n := by simp [h.n], t := rfl }
      exact hn.advance 1
  | kr =>
    refine ⟨kernResetEffect u', by simp [execToken, execKr, hpass'], ?_⟩
    obtain ⟨-, rfl⟩ := execKr_next ht
    have ht0 : LayoutTwins s s' { u with t := 0 } { u' with t := 0 } := { h with t := rfl }
    exact ht0.advance 1
  | skip b =>
    refine ⟨u'.advance 1, by simp [execToken, execSkip, hpass'], ?_⟩
    obtain ⟨-, rfl⟩ := execSkip_next (b := b) ht
    exact h.advance 1
  | glyph o =>
    obtain ⟨-, d, hd, hcases⟩ := execGlyph_next ht
    refine ⟨glyphEffect u' o d, by simp [execToken, execGlyph, hpass', h.par, h.tab, hd], ?_⟩
    rw [glyphEffect, h.n, h.mwEff, h.inCell_eq, h.gapOf_eq, h.glyphEvents_eq]
    obtain ⟨hc, rfl⟩ | ⟨hc, rfl⟩ := hcases
    · rw [if_pos hc]
      exact (h.glyphScratch o d).endPass hpass
    · rw [if_neg (by simp [hc])]
      have hn : LayoutTwins s s'
          { Machine.glyphScratch u o d with
            n := penAfter u.n (inCell u d) d.w (gapOf u d), t := d.columns.getLastD 0, pd := d.dg }
          { Machine.glyphScratch u' o d with
            n := penAfter u.n (inCell u d) d.w (gapOf u d), t := d.columns.getLastD 0,
            pd := d.dg } :=
        { h.glyphScratch o d with n := rfl, t := rfl, pd := rfl }
      exact hn.emit _
  | _ => exact absurd ht (by simp [execToken])

/-- Both runs start the second pass of an aligned layout. -/
theorem startPass2 (h : LayoutTwins s s' u u') (mode : AlignMode) (m : Bool) :
    LayoutTwins s s' (u.startPass2 mode m) (u'.startPass2 mode m) :=
  { h with
    n := rfl, t := rfl, pd := rfl, cur := rfl, measEff := rfl, phase := rfl, results := .inl rfl
    mwEff := by simp [h.n]
    xEff := by simp [State.startPass2, State.startPass, h.x, h.maxw, h.n]
    n1 := fun _ => by simp [h.n] }

/-- Both runs write their results. -/
theorem finishLayout (h : LayoutTwins s s' u u') {aligned : Bool}
    (hp : u.phase = .done (.layout aligned)) :
    LayoutTwins s s' (u.finishLayout aligned) (u'.finishLayout aligned) := by
  have hnatural : (if aligned then u'.n1 else u'.n) = if aligned then u.n1 else u.n := by
    cases aligned with
    | false => exact h.n
    | true => exact h.n1 (by rw [hp]; rfl)
  exact { h with
    phase := rfl, n1 := fun hk => absurd hk (by simp [keepsFirstPass])
    results := .inr ⟨rfl, by simp [h.n], by simpa using hnatural⟩ }

/-- A step of the micro-sequencer that the first run takes is taken by the second. -/
theorem micro (h : LayoutTwins s s' u u') (hb : u.phase ≠ .idle) (ht : micro u = .next t) :
    ∃ t', micro u' = .next t' ∧ LayoutTwins s s' t t' := by
  have hscan : scanning u.phase = true := h.results.resolve_right fun hi => hb hi.1
  have hp' := h.phase
  unfold Machine.micro at ht ⊢
  rw [hp']
  cases hp : u.phase with
  | idle => exact absurd hp hb
  | check c => simp [hp, scanning] at hscan
  | pass1 mode m =>
    obtain rfl : u.endPass = t := by simpa [hp] using ht
    exact ⟨_, rfl, h.endPass (by rw [hp]; rfl)⟩
  | shift mode m =>
    obtain rfl : u.startPass2 mode m = t := by simpa [hp] using ht
    exact ⟨_, rfl, h.startPass2 mode m⟩
  | pass2 aligned =>
    obtain rfl : u.endPass = t := by simpa [hp] using ht
    exact ⟨_, rfl, h.endPass (by rw [hp]; rfl)⟩
  | resolveRun => simp [hp, scanning] at hscan
  | done r =>
    cases r with
    | layout aligned =>
      obtain rfl : u.finishLayout aligned = t := by simpa [hp, State.finish] using ht
      exact ⟨_, rfl, h.finishLayout hp⟩
    | resolve hit => simp [hp, scanning] at hscan

theorem tick (h : LayoutTwins s s' u u') (hb : u.phase ≠ .idle) (ht : tick u = .next t) :
    ∃ t', tick u' = .next t' ∧ LayoutTwins s s' t t' := by
  unfold Machine.tick
  rw [h.fetch_eq]
  rcases tick_next ht with ⟨i, hf, hi⟩ | ⟨hf, hm⟩ <;> rw [hf]
  · exact h.token hi
  · exact h.micro hb hm

/-- The two runs stay in step to their ends. -/
theorem run {k : Nat} (h : LayoutTwins s s' u u') (hr : runCommand k u = .next t) :
    ∃ t', runCommand k u' = .next t' ∧ LayoutTwins s s' t t' :=
  runCommand_simulation (R := LayoutTwins s s') (fun _ _ h => h.phase)
    (fun _ _ _ h hb ht => h.tick hb ht) h hr

/-- Two idle states with the same operands start their first pass alike. -/
theorem start (h : sameOperands s s') (al : Align) (tb m : Bool) :
    LayoutTwins s s' (s.startLayout (firstPass al m) tb (firstPassMeasures al m))
      (s'.startLayout (firstPass al m) tb (firstPassMeasures al m)) := by
  obtain ⟨⟨-, -, hbase, hlen, htext, hpar⟩, hx, hy, hmaxw, hsurf⟩ := h
  constructor <;>
    simp [hbase, hlen, htext, hpar, hx, hy, hmaxw, hsurf, scanning_firstPass,
      keepsFirstPass_firstPass]

end LayoutTwins

theorem textWraps_congr {s s' : State} (h : sameText s s') : textWraps s' = textWraps s := by
  obtain ⟨-, -, hbase, hlen, -, -⟩ := h
  simp only [textWraps, hbase, hlen]

/-- A legal LAYOUT command answers alike from two states with the same operands. -/
theorem layout_twins {s s' t : State} {al : Align} {tb m : Bool} (h : sameOperands s s')
    (hw : textWraps s = false) (ht : command (.layout al tb m) s = .next t) :
    ∃ t', command (.layout al tb m) s' = .next t' ∧ LayoutTwins s s' t t' := by
  obtain ⟨hi, hi', -, hlen, -⟩ := h.1
  have hw' : textWraps s' = false := (textWraps_congr h.1).trans hw
  rw [command_legal _ hi, checkCommand_layout al tb m hw] at ht
  rw [command_legal _ hi', checkCommand_layout al tb m hw', hlen]
  exact (LayoutTwins.start h al tb m).run ht

/-- RESOLVE of a text that does not wrap is what the resolver gives, handed to DONE (R159). -/
theorem execResolve_of_resolveText {s : State} {r : Option (Nat × Half)} (hi : s.phase = .idle)
    (hw : textWraps s = false) (hr : resolveText s = .ok r) :
    execResolve s = .next ((s.endResolve r).finishResolve
      (r.map fun x => (BitVec.ofNat 16 x.1, x.2))) := by
  have hw' : textWraps (s.startCommand .resolve) = false := hw
  have hcheck : (s.startCommand .resolve).checkCommand .resolve =
      { s with phase := .resolveRun } := by
    simp only [State.checkCommand, hw']
    rfl
  have hwr : textWraps { s with phase := .resolveRun } = false := hw
  have hrr : resolveText { s with phase := .resolveRun } = .ok r := hr
  have hrun : tick { s with phase := .resolveRun } =
      .next (({ s with phase := .resolveRun } : State).endResolve r) := by
    rw [tick_outside rfl]
    simp [micro, resolveRun, hwr, hrr]
  rw [execResolve, command_legal _ hi, hcheck, runCommand_step (by simp) hrun,
    runCommand_step (by simp) (tick_outside rfl)]
  exact runCommand_done rfl

theorem resolveText_congr {s s' : State} (h : sameText s s') : resolveText s' = resolveText s := by
  obtain ⟨-, -, hbase, hlen, htext, hpar⟩ := h
  simp only [resolveText, commandText, textBytes_congr htext, hbase, hlen, hpar]

/-- RESOLVE answers alike from two states with the same text. -/
theorem resolve_twins {s s' t : State} (h : sameText s s') (hw : textWraps s = false)
    (ht : execResolve s = .next t) :
    ∃ t', execResolve s' = .next t' ∧ t'.found = t.found ∧ t'.resOff = t.resOff ∧
      t'.resInfo = t.resInfo := by
  obtain ⟨-, hi', -⟩ := id h
  obtain ⟨-, ⟨hw', -⟩ | ⟨-, r, hr, rfl⟩⟩ := execResolve_next ht
  · simp [hw] at hw'
  · exact ⟨_, execResolve_of_resolveText hi' ((textWraps_congr h).trans hw)
      ((resolveText_congr h).trans hr), rfl, rfl, rfl⟩

/-- A command whose text wraps sets ILLEGAL and, the engine being idle before, nothing else. -/
theorem command_illegal_eq {s : State} (c : Command) (hi : s.phase = .idle)
    (hw : textWraps s = true) : command c s = .next { s with illegal := true } := by
  rw [command_illegal c hi hw, State.raiseIllegal, ← hi]

/-- Settles O49: two runs in step for LAYOUT, the resolver's independence of the rest for RESOLVE,
CHECK's Illegal for a text that wraps. -/
theorem noHiddenStateBetweenCommands : Obligations.NoHiddenStateBetweenCommands := by
  intro s s' _
  refine ⟨fun t al tb m h hw ht => ?_, fun t h hw ht => ?_, fun c h hw => ?_⟩
  · rw [exec_layoutInstr] at ht
    obtain ⟨t', ht', twins⟩ := layout_twins h (textWraps_eq_false.2 hw) ht
    obtain ⟨es, hes, hes'⟩ := twins.pixels
    have hidle : scanning t.phase ≠ true := by simp [command_idle ht, scanning]
    obtain ⟨-, hwidth, hnatural⟩ := twins.results.resolve_left hidle
    exact ⟨t', es, by rw [exec_layoutInstr, ht'], hwidth, hnatural, hes, hes'⟩
  · exact resolve_twins h (textWraps_eq_false.2 hw) ht
  · obtain ⟨hi, hi', -⟩ := id h
    have hw1 : textWraps s = true := textWraps_eq_true.2 hw
    rw [exec_commandInstr, exec_commandInstr]
    exact ⟨command_illegal_eq c hi hw1, command_illegal_eq c hi' ((textWraps_congr h).trans hw1)⟩

end Sys2Proof.Machine

/-! ### The pen's arithmetic (R183 to R191, R232) -/

namespace Sys2Proof.Machine

open Host (Outcome)

/-- A word no greater than 128 adds to a pen far from the top of 32 bits without wrapping (R232). -/
theorem toInt_add_of_small {n r : Word} (hn : 0 ≤ n.toInt) (hn' : n.toInt ≤ 16777216)
    (hr : r.toNat ≤ 128) : (n + r).toInt = n.toInt + r.toNat := by
  have hr' : r.toInt = r.toNat := BitVec.toInt_eq_toNat_of_lt (by omega)
  rw [BitVec.toInt_add, hr']
  exact Int.bmod_eq_of_le (by omega) (by omega)

/-- Subtracting a column count from a small number does not wrap. -/
theorem toInt_sub_columns (k : Word) (w : BitVec 7) (hk : k.toNat ≤ 6) :
    (k - w.setWidth 32).toInt = k.toNat - (w.toNat : Int) := by
  have hk' : k.toInt = k.toNat := BitVec.toInt_eq_toNat_of_lt (by omega)
  have hw : (w.setWidth 32 : Word).toInt = w.toNat := by
    rw [BitVec.toInt_setWidth]
    exact Int.bmod_eq_of_le (by omega) (by omega)
  rw [BitVec.toInt_sub, hk', hw]
  exact Int.bmod_eq_of_le (by omega) (by omega)

/-- The two paddings of a tabular cell make up what the columns leave of its five pixels, also when
the columns are more: the halves of `5 - w` and `6 - w`, rounded down, add up to `5 - w` (R184,
R186, R191). -/
theorem cellPads (w : BitVec 7) :
    floor2 (Config.tnumWidth - w.setWidth 32) + floor2 (Config.tnumWidth + 1 - w.setWidth 32) =
      Config.tnumWidth - w.setWidth 32 := by
  have h5 := toInt_sub_columns Config.tnumWidth w (by decide)
  have h6 := toInt_sub_columns (Config.tnumWidth + 1) w (by decide)
  have e5 : (Config.tnumWidth : Word).toNat = 5 := rfl
  have e6 : (Config.tnumWidth + 1 : Word).toNat = 6 := rfl
  apply BitVec.eq_of_toInt_eq
  rw [BitVec.toInt_add, toInt_floor2, toInt_floor2, h5, h6, e5, e6]
  refine (Int.bmod_eq_of_le ?_ ?_).trans ?_ <;> omega

/-- R191: the pen advances by exactly the required width. -/
theorem penAfter_eq (n : Word) (cell : Bool) (w : BitVec 7) (gap : Bool) :
    penAfter n cell w gap = n + glyphReq cell w gap := by
  cases cell with
  | false =>
    simp only [penAfter, penAtDraw, leadPad, trailPad, glyphReq, Bool.false_eq_true, if_false]
    ac_rfl
  | true =>
    simp only [penAfter, penAtDraw, leadPad, trailPad, glyphReq, if_true]
    have cell : Config.tnumWidth =
        floor2 (Config.tnumWidth - w.setWidth 32) + floor2 (Config.tnumWidth + 1 - w.setWidth 32) +
          w.setWidth 32 := by rw [cellPads, BitVec.sub_add_cancel]
    conv_rhs => rw [cell]
    ac_rfl

/-- A glyph needs at most 127 columns and a gap (R134, R183). -/
theorem glyphReq_le (cell : Bool) (w : BitVec 7) (gap : Bool) :
    (glyphReq cell w gap).toNat ≤ 128 := by
  have hw : (w.setWidth 32 : Word).toNat ≤ 127 := by
    rw [BitVec.toNat_setWidth]
    omega
  have hgap : (gapWidth gap).toNat ≤ 1 := by cases gap <;> decide
  rw [glyphReq, BitVec.toNat_add]
  cases cell
  · simp only [Bool.false_eq_true, if_false]; omega
  · simp only [if_true, BitVec.toNat_ofNat]
    omega

end Sys2Proof.Machine

namespace Sys2Proof.Font

/-- A key that matches is no longer than the input (R154). -/
theorem keyMatches_length_le {p : Params} {a k : Nat} {q : List Byte}
    (h : keyMatches p a k q = .ok true) : k ≤ q.length := by
  induction k generalizing a q with
  | zero => exact Nat.zero_le _
  | succ k ih =>
    cases q with
    | nil => simp [keyMatches] at h
    | cons b q =>
      simp only [keyMatches] at h
      cases hx : romByte p a with
      | error e => simp [hx, bind, Except.bind] at h
      | ok x =>
        simp only [hx, bind, Except.bind] at h
        split at h
        · exact Nat.succ_le_succ (ih h)
        · simp [pure, Except.pure] at h

/-- A glyph ROM address that is read lies below 65536 (R62). -/
theorem romByte_ok_lt {p : Params} {a : Nat} {b : Byte} (h : romByte p a = .ok b) : a < 65536 := by
  unfold romByte at h
  split at h
  · assumption
  · simp at h

/-- What the scan answers is a record whose key is no longer than the input (R153, R154). -/
theorem scanRecords_some {p : Params} {q0 : Byte} {q : List Byte} {fuel o r : Nat}
    (h : scanRecords p q0 q fuel o = .ok (some r)) :
    ∃ kl, keyLen p r = .ok kl ∧ kl.toNat ≤ q.length + 1 := by
  induction fuel generalizing o with
  | zero => simp [scanRecords] at h
  | succ fuel ih =>
    simp only [scanRecords] at h
    cases hkl : keyLen p o with
    | error e => simp [hkl, bind, Except.bind] at h
    | ok kl =>
      simp only [hkl, bind, Except.bind] at h
      split at h
      · simp [pure, Except.pure] at h
      · cases hk0 : keyByte p o 0 with
        | error e => simp [hk0] at h
        | ok k0 =>
          simp only [hk0] at h
          split at h
          · simp [pure, Except.pure] at h
          · cases hm : keyMatches p (o + 1) kl.toNat (q0 :: q) with
            | error e => simp [hm] at h
            | ok hit =>
              simp only [hm] at h
              cases hit with
              | true =>
                obtain rfl : o = r := by simpa [pure, Except.pure] using h
                exact ⟨kl, hkl, keyMatches_length_le hm⟩
              | false =>
                cases hlen : recLen p o with
                | error e => simp [hlen] at h
                | ok len =>
                  simp only [hlen] at h
                  exact ih h

/-- What the resolver finds is a record of the glyph ROM whose key is no longer than the input
(R150, R154). -/
theorem resolve_some {p : Params} {q : List Byte} {r : Nat} (h : resolve p q = .ok (some r)) :
    r < 65536 ∧ ∃ kl, keyLen p r = .ok kl ∧ kl.toNat ≤ q.length := by
  cases q with
  | nil => simp [resolve] at h
  | cons q0 q =>
    simp only [resolve] at h
    split at h
    · simp at h
    · split at h
      · simp at h
      · obtain ⟨kl, hkl, hle⟩ := scanRecords_some h
        exact ⟨romByte_ok_lt hkl, kl, hkl, hle⟩

end Sys2Proof.Font

/-! ### Steps of an idle engine, by what the host's operation comes to (R36 to R41) -/

namespace Sys2Proof.Machine

open Host (Outcome)

/-- What an operation of the host or the platform makes of the state `s` from whose queue it was
taken: it waits, raises Illegal, stores, reads, places text or sets the sink's width, or runs a
command or a wrapper to completion. -/
inductive HostEffect (s : State) : State → Prop
  | wait : HostEffect s s
  | illegal : HostEffect s s.raiseIllegal
  | regWrite (k : Nat) (v : Word) : HostEffect s (s.regWrite k v)
  | regRead (k : Nat) : HostEffect s (s.regRead k)
  | placeText (a : Half) (b : Byte) : HostEffect s (s.placeText a b)
  | setSurfW (v : Half) : HostEffect s (s.setSurfW v)
  | command {c : Command} {t : State} (h : command c s = .next t) : HostEffect s t
  | wrapper {al : Align} {base len x y w : Word} {t : State}
      (h : wrapper al base len x y w s = .next t) : HostEffect s t

/-- A command word decodes to the instruction of a command (R92). -/
theorem decodeCmd_ok {v : Word} {i : Instr} (h : decodeCmd v = .ok i) :
    ∃ c, i = commandInstr c := by
  unfold decodeCmd at h
  split_ifs at h <;> cases h
  · exact ⟨.layout .left _ _, rfl⟩
  · exact ⟨.layout .right _ _, rfl⟩
  · exact ⟨.layout .center _ _, rfl⟩
  · exact ⟨.resolve, rfl⟩

/-- Everything a write to CMD comes to (R33, R246): its command, or Illegal. -/
theorem writeCmd_cases (s : State) (v : Word) :
    (∃ c, decodeCmd v = .ok (commandInstr c) ∧ writeCmd s v = .run (commandInstr c) s) ∨
      writeCmd s v = .finished s.raiseIllegal := by
  unfold writeCmd
  cases hd : decodeCmd v with
  | ok i =>
    obtain ⟨c, rfl⟩ := decodeCmd_ok hd
    exact .inl ⟨c, rfl, rfl⟩
  | error e => exact .inr rfl

/-- An operation that is finished at once has its own effect. -/
theorem hostEffect_of_finished {s t : State} {op : HostOp} (h : accessOf s op = .finished t) :
    HostEffect s t := by
  cases op with
  | regWrite k v =>
    rw [accessOf] at h
    split at h
    · obtain ⟨c, -, hw⟩ | hw := writeCmd_cases s v <;> rw [hw] at h <;> cases h
      exact .illegal
    · cases h
      exact .regWrite k v
  | regRead k =>
    cases h
    exact .regRead k
  | placeText a b =>
    cases h
    exact .placeText a b
  | setSurfW v =>
    cases h
    exact .setSurfW v
  | textLeft base len x y w => cases h
  | textCentered base len x y w => cases h

/-- An operation that runs an instruction runs a command or a wrapper. -/
theorem hostEffect_of_run {s u t : State} {op : HostOp} {i : Instr}
    (h : accessOf s op = .run i u) (ht : exec i u = .next t) : HostEffect s t := by
  cases op with
  | regWrite k v =>
    rw [accessOf] at h
    split at h
    · obtain ⟨c, -, hw⟩ | hw := writeCmd_cases s v <;> rw [hw] at h <;> cases h
      rw [exec_commandInstr] at ht
      exact .command ht
    · cases h
  | textLeft base len x y w =>
    cases h
    exact .wrapper ht
  | textCentered base len x y w =>
    cases h
    exact .wrapper ht
  | regRead k => cases h
  | placeText a b => cases h
  | setSurfW v => cases h

/-- The next operation is taken off the queue. -/
theorem hostAccess_cons {s : State} {op : HostOp} {rest : List HostOp} (hq : s.host = op :: rest) :
    hostAccess s = accessOf { s with host := rest } op := by
  rw [hostAccess, hq]

/-- An idle engine's step is the next operation, where that is finished at once. -/
theorem step_of_finished {s t : State} {op : HostOp} {rest : List HostOp} (hi : s.phase = .idle)
    (hq : s.host = op :: rest) (h : accessOf { s with host := rest } op = .finished t) :
    step s = .next t := by
  rw [step_idle hi, hostAccess_cons hq, h]

/-- An idle engine's step is the instruction that the next operation runs. -/
theorem step_of_run {s u : State} {op : HostOp} {rest : List HostOp} {i : Instr}
    (hi : s.phase = .idle) (hq : s.host = op :: rest)
    (h : accessOf { s with host := rest } op = .run i u) : step s = exec i u := by
  rw [step_idle hi, hostAccess_cons hq, h]

/-- An idle engine with nothing in the queue stays as it is (R221, log 18). -/
theorem step_of_empty {s : State} (hi : s.phase = .idle) (hq : s.host = []) :
    step s = .next s := by
  rw [step_idle hi, hostAccess, hq]

/-- Everything a step of an idle engine can do. -/
theorem step_idle_next {s t : State} (hi : s.phase = .idle) (h : step s = .next t) :
    ∃ rest, HostEffect { s with host := rest } t := by
  cases hq : s.host with
  | nil =>
    rw [step_of_empty hi hq] at h
    cases h
    exact ⟨s.host, .wait⟩
  | cons op rest =>
    refine ⟨rest, ?_⟩
    cases ha : accessOf { s with host := rest } op with
    | finished u =>
      rw [step_of_finished hi hq ha] at h
      cases h
      exact hostEffect_of_finished ha
    | run i u =>
      rw [step_of_run hi hq ha] at h
      exact hostEffect_of_run ha h

/-- Settles O45: no tick clears ILLEGAL, and no operation of the host does. -/
theorem illegalIsSticky : Obligations.IllegalIsSticky := by
  intro s t _ h hill
  by_cases hi : s.phase = .idle
  · obtain ⟨rest, heff⟩ := step_idle_next hi h
    have hill' : ({ s with host := rest } : State).illegal = true := hill
    cases heff with
    | command hc => exact (command_keeps hc).illegal hill'
    | wrapper hw =>
      obtain ⟨-, u, hu, rfl⟩ := wrapper_next hw
      exact (command_keeps hu).illegal (by simpa using hill')
    | _ => simp [hill]
  · rw [step_eq_tick hi] at h
    exact (tick_keeps h).illegal hill

/-! ### The invariant of every step (R26, R31, R65, R191, R226, R232) -/

/-- The pen and the cursor of a pass are in order: the cursor inside the text, the pen between 0 and
128 pixels a consumed byte, and not above a positive bound. -/
structure PenOk (s : State) : Prop where
  cur_le : s.cur.toNat ≤ s.textLen.toNat
  nonneg : 0 ≤ s.n.toInt
  le_bytes : s.n.toInt ≤ 128 * (s.cur.toNat : Int)
  le_bound : 0 < s.mwEff.toInt → s.n.toInt ≤ s.mwEff.toInt

theorem midCommandOk_iff {s : State} :
    midCommandOk s ↔ (textChecked s.phase = true → textWraps s = false) ∧
      (scanning s.phase = true → PenOk s) := by
  rw [textWraps_eq_false]
  exact and_congr_right fun _ => forall_congr' fun _ =>
    ⟨fun ⟨h1, h2, h3, h4⟩ => ⟨h1, h2, h3, h4⟩, fun ⟨h1, h2, h3, h4⟩ => ⟨h1, h2, h3, h4⟩⟩

/-- A token that consumes bytes of the text, adds at most 128 pixels to the pen and respects the
bound keeps the pen in order. -/
theorem PenOk.consume {s t : State} (h : PenOk s) (keeps : TokenKeeps s t) {k : Offset} {r : Word}
    (hcur : t.cur = s.cur + k) (hn : t.n = s.n + r) (hk : 0 < k.toNat)
    (hin : s.cur.toNat + k.toNat ≤ s.textLen.toNat) (hr : r.toNat ≤ 128)
    (hbound : 0 < s.mwEff.toInt → (s.n + r).toInt ≤ s.mwEff.toInt) : PenOk t := by
  have hlen : s.textLen.toNat < 65536 := s.textLen.isLt
  have hcur' : t.cur.toNat = s.cur.toNat + k.toNat := by
    rw [hcur, BitVec.toNat_add]
    omega
  have hbytes := h.le_bytes
  have hn' : t.n.toInt = s.n.toInt + r.toNat := by
    rw [hn, toInt_add_of_small h.nonneg (by omega) hr]
  have hnonneg := h.nonneg
  exact
    { cur_le := by rw [hcur', keeps.textLen]; exact hin
      nonneg := by omega
      le_bytes := by omega
      le_bound := by rw [keeps.mwEff, hn]; exact hbound }

/-- The key of a glyph fetched at the cursor lies inside the text (R154, R173). -/
theorem fetched_glyph_in_text {s : State} {o : Offset} {d : GlyphData}
    (hf : fetch s = .next (some (.glyph o))) (hd : glyphData s.par s.tab o.toNat = .ok d) :
    s.cur.toNat + d.kl.toNat ≤ s.textLen.toNat := by
  have hcur := fetch_some_cur_lt hf
  obtain ⟨-, -, c, cs, hrest, hdec⟩ := fetch_some hf
  have hlen := congrArg List.length hrest
  simp only [remainingText, length_textBytes] at hlen
  obtain ⟨-, hi⟩ | ⟨-, -, hi⟩ | ⟨-, -, ⟨r, hres, hi⟩ | ⟨-, hi⟩⟩ := decodeToken_ok hdec
  · cases hi
  · cases hi
  · obtain ⟨hr, kl, hkl, hle⟩ := Font.resolve_some hres
    obtain ⟨hkl', -⟩ := glyphData_ok hd
    have ho : o.toNat = r := by
      rw [Instr.glyph.inj hi, BitVec.toNat_ofNat]
      omega
    rw [ho, hkl] at hkl'
    rw [← Except.ok.inj hkl']
    omega
  · cases hi

/-- A token fetched at the cursor keeps the pen in order. -/
theorem PenOk.token {s t : State} {i : Instr} (h : PenOk s) (hf : fetch s = .next (some i))
    (ht : execToken i s = .next t) : PenOk t := by
  have hcur := fetch_some_cur_lt hf
  have keeps := execToken_keeps ht
  cases i with
  | sp =>
    obtain ⟨-, ⟨-, rfl⟩ | ⟨hc, rfl⟩⟩ := execSp_next ht
    · exact ⟨by simpa using h.cur_le, by simpa using h.nonneg, by simpa using h.le_bytes,
        by simpa using h.le_bound⟩
    · refine h.consume keeps (k := 1) rfl rfl (by decide) hcur (by decide) fun hpos => ?_
      simp only [spaceTruncates, hpos, decide_true, Bool.true_and, decide_eq_false_iff_not] at hc
      omega
  | kr =>
    obtain ⟨-, rfl⟩ := execKr_next ht
    exact h.consume keeps (k := 1) (r := 0) rfl (by simp) (by decide) hcur (by decide)
      (by simpa using h.le_bound)
  | skip b =>
    obtain ⟨-, rfl⟩ := execSkip_next (b := b) ht
    exact h.consume keeps (k := 1) (r := 0) rfl (by simp) (by decide) hcur (by decide)
      (by simpa using h.le_bound)
  | glyph o =>
    obtain ⟨-, d, hd, hcases⟩ := execGlyph_next ht
    obtain ⟨-, hkl, -⟩ := glyphData_ok hd
    have hin : s.cur.toNat + (d.kl.setWidth 17 : Offset).toNat ≤ s.textLen.toNat := by
      rw [toNat_keyLength]
      exact fetched_glyph_in_text hf hd
    have hpos : 0 < (d.kl.setWidth 17 : Offset).toNat := by
      rw [toNat_keyLength]
      simpa [Nat.pos_iff_ne_zero, BitVec.toNat_eq] using hkl
    obtain ⟨-, rfl⟩ | ⟨hc, rfl⟩ := hcases
    · exact h.consume keeps (r := 0) (by simp [glyphScratch]) (by simp [glyphScratch]) hpos hin
        (by decide) (by simpa using h.le_bound)
    · refine h.consume keeps rfl (penAfter_eq s.n (inCell s d) d.w (gapOf s d)) hpos hin
        (glyphReq_le _ _ _) fun hb => ?_
      simp only [glyphTruncates, hb, decide_true, Bool.true_and, decide_eq_false_iff_not] at hc
      omega
  | _ => exact absurd ht (by simp [execToken])

/-- At the start of a pass the pen is in order (R171). -/
theorem PenOk.of_start {s : State} (hcur : s.cur = 0) (hn : s.n = 0) : PenOk s where
  cur_le := by simp [hcur]
  nonneg := by simp [hn]
  le_bytes := by simp [hn, hcur]
  le_bound hpos := by simpa [hn] using le_of_lt hpos

/-- While the engine is idle only text memory and the widths are bound by the invariant. -/
theorem inv_of_idle {s : State} (hi : s.phase = .idle) (hwf : Memory.wf s.text = true)
    (hw : 0 ≤ s.widthUsed.toInt) (hnat : 0 ≤ s.natural.toInt) (hn1 : 0 ≤ s.n1.toInt) : Inv s :=
  ⟨hwf, hw, hnat, hn1, by simp [hi, textChecked], by simp [hi, scanning]⟩

theorem scanning_of_inPass {ph : Phase} (h : ph.inPass = true) : scanning ph = true := by
  cases ph <;> simp_all [Phase.inPass, scanning]

theorem textChecked_of_inPass {ph : Phase} (h : ph.inPass = true) : textChecked ph = true := by
  cases ph <;> simp_all [Phase.inPass, textChecked]

/-- A token fetched at the cursor keeps the invariant. -/
theorem inv_token {s t : State} {i : Instr} (h : Inv s) (hf : fetch s = .next (some i))
    (ht : execToken i s = .next t) : Inv t := by
  obtain ⟨hwf, hw, hnat, hn1, hmid⟩ := h
  have keeps := execToken_keeps ht
  obtain ⟨hpass, hwraps, -⟩ := fetch_some hf
  have pen : PenOk t :=
    ((midCommandOk_iff.1 hmid).2 (scanning_of_inPass hpass)).token hf ht
  have hwraps' : textWraps t = false := by
    rwa [textWraps, keeps.textBase, keeps.textLen]
  exact ⟨keeps.text ▸ hwf, keeps.widthUsed ▸ hw, keeps.natural ▸ hnat, keeps.n1 ▸ hn1,
    midCommandOk_iff.2 ⟨fun _ => hwraps', fun _ => pen⟩⟩

/-- CHECK keeps the invariant: it is what finds that the text lies in text memory (R65, R233). -/
theorem inv_checkCommand {s : State} (c : Command) (h : Inv s) : Inv (s.checkCommand c) := by
  obtain ⟨hwf, hw, hnat, hn1, -⟩ := h
  rcases checkCommand_cases s c with
    ⟨-, e⟩ | ⟨hwraps, ⟨-, e⟩ | ⟨tb, m, -, e⟩ | ⟨tb, m, -, e⟩ | ⟨tb, m, -, e⟩⟩ <;> rw [e]
  · exact inv_of_idle rfl hwf hw hnat hn1
  · exact ⟨hwf, hw, hnat, hn1,
      midCommandOk_iff.2 ⟨fun _ => hwraps, fun hs => absurd hs (by simp [scanning])⟩⟩
  all_goals
    exact ⟨hwf, hw, hnat, hn1, midCommandOk_iff.2 ⟨fun _ => hwraps, fun _ => .of_start rfl rfl⟩⟩

/-- The end of a pass keeps the invariant. -/
theorem inv_endPass {s : State} (hp : s.phase.inPass = true) (h : Inv s) : Inv s.endPass := by
  obtain ⟨hwf, hw, hnat, hn1, hmid⟩ := h
  obtain ⟨htext, hpen⟩ := midCommandOk_iff.1 hmid
  have pen := hpen (scanning_of_inPass hp)
  have hwraps := htext (textChecked_of_inPass hp)
  exact ⟨by simpa using hwf, by simpa using hw, by simpa using hnat, by simpa using hn1,
    midCommandOk_iff.2 ⟨fun _ => by simpa [textWraps] using hwraps,
      fun _ => ⟨by simpa using pen.cur_le, by simpa using pen.nonneg, by simpa using pen.le_bytes,
        by simpa using pen.le_bound⟩⟩⟩

/-- DONE keeps the invariant: a layout's results are pens, which are not negative (R26). -/
theorem inv_finish {s : State} {r : Completion} (hp : s.phase = .done r) (h : Inv s) :
    Inv (s.finish r) := by
  obtain ⟨hwf, hw, hnat, hn1, hmid⟩ := h
  cases r with
  | layout aligned =>
    have pen : PenOk s := (midCommandOk_iff.1 hmid).2 (by rw [hp]; rfl)
    refine inv_of_idle rfl hwf pen.nonneg ?_ hn1
    cases aligned
    · exact pen.nonneg
    · exact hn1
  | resolve hit => exact inv_of_idle rfl hwf hw hnat hn1

/-- Every step of the micro-sequencer keeps the invariant. -/
theorem inv_micro {s t : State} (h : Inv s) (ht : micro s = .next t) : Inv t := by
  rcases micro_next ht with
    ⟨-, rfl⟩ | ⟨c, -, rfl⟩ | ⟨hp, rfl⟩ | ⟨mode, m, hp, rfl⟩ | ⟨hp, hr⟩ | ⟨r, hp, rfl⟩
  · exact h
  · exact inv_checkCommand c h
  · exact inv_endPass hp h
  · obtain ⟨hwf, hw, hnat, -, hmid⟩ := h
    obtain ⟨htext, hpen⟩ := midCommandOk_iff.1 hmid
    have pen := hpen (by rw [hp]; rfl)
    exact ⟨hwf, hw, hnat, pen.nonneg,
      midCommandOk_iff.2 ⟨fun _ => htext (by rw [hp]; rfl), fun _ => .of_start rfl rfl⟩⟩
  · obtain ⟨hwf, hw, hnat, hn1, -⟩ := h
    obtain ⟨hwraps, r, -, rfl⟩ := resolveRun_next hr
    exact ⟨hwf, hw, hnat, hn1,
      midCommandOk_iff.2 ⟨fun _ => hwraps, fun hs => absurd hs (by simp [scanning])⟩⟩
  · exact inv_finish hp h

theorem inv_tick {s t : State} (h : Inv s) (ht : tick s = .next t) : Inv t := by
  rcases tick_next ht with ⟨i, hf, hi⟩ | ⟨-, hm⟩
  · exact inv_token h hf hi
  · exact inv_micro h hm

/-- A command keeps the invariant, tick by tick. -/
theorem inv_command {c : Command} {s t : State} (h : Inv s) (ht : command c s = .next t) :
    Inv t := by
  obtain ⟨hwf, hw, hnat, hn1, -⟩ := h
  have start : Inv (s.startCommand c) :=
    ⟨hwf, hw, hnat, hn1, by simp [textChecked], by simp [scanning]⟩
  exact (runCommand_induction (P := Inv) (fun _ _ _ => inv_tick) start (command_next ht).2).1

theorem inv_wrapper {al : Align} {base len x y w : Word} {s t : State} (h : Inv s)
    (ht : wrapper al base len x y w s = .next t) : Inv t := by
  obtain ⟨hwf, hw, hnat, hn1, -⟩ := h
  obtain ⟨hi, u, hu, rfl⟩ := wrapper_next ht
  have written : Inv (s.writeOperands base len x y w) :=
    inv_of_idle (by simpa using hi) (by simpa using hwf) (by simpa using hw) (by simpa using hnat)
      (by simpa using hn1)
  exact (inv_command written hu : Inv u)

/-- Every operation of the host or the platform keeps the invariant. -/
theorem inv_hostEffect {s t : State} (hi : s.phase = .idle) (h : Inv s) (ht : HostEffect s t) :
    Inv t := by
  obtain ⟨hwf, hw, hnat, hn1, -⟩ := id h
  cases ht with
  | wait => exact h
  | illegal => exact inv_of_idle rfl hwf hw hnat hn1
  | regWrite k v =>
    exact inv_of_idle (by simpa using hi) (by simpa using hwf) (by simpa using hw)
      (by simpa using hnat) (by simpa using hn1)
  | regRead k => exact inv_of_idle hi hwf hw hnat hn1
  | placeText a b => exact inv_of_idle hi (State.wf_placeText a b hwf) hw hnat hn1
  | setSurfW v => exact inv_of_idle hi hwf hw hnat hn1
  | command hc => exact inv_command h hc
  | wrapper hw => exact inv_wrapper h hw

/-- Settles O56: an idle engine by the host's operations, any other state by its tick. -/
theorem stepKeepsInvariant : Obligations.StepKeepsInvariant := by
  intro s t _ hinv h
  by_cases hi : s.phase = .idle
  · obtain ⟨rest, heff⟩ := step_idle_next hi h
    exact inv_hostEffect (s := { s with host := rest }) hi hinv heff
  · rw [step_eq_tick hi] at h
    exact inv_tick hinv h

end Sys2Proof.Machine

/-! ### The register file and the host's accesses (R33 to R41) -/

namespace Sys2Proof.Machine

open Host (Outcome)

/-- The invariant holds after reset: nothing is listed in text memory, every width is 0. -/
theorem inv_powerOn (p : Params) (sw : Half) : Inv (State.powerOn p sw) :=
  inv_of_idle rfl Memory.wf_nil (Int.le_refl 0) (Int.le_refl 0) (Int.le_refl 0)

/-- Settles O2: `State.reset` is a power-on state. -/
theorem resetSatisfiesInvariant : Obligations.ResetSatisfiesInvariant :=
  ⟨inv_powerOn Config.params Config.surfW, fun p sw _ => inv_powerOn p sw⟩

/-- An operand register keeps the low half of what was written (R38). -/
theorem regValue_regWrite_same (s : State) {k : Nat} (v : Word) (h2 : 2 ≤ k) (h6 : k ≤ 6) :
    regValue (s.regWrite k v) k =
      if k ≤ 3 then zext32 (v.setWidth 16) else sext32 (v.setWidth 16) := by
  interval_cases k <;> rfl

/-- A write to one register leaves the values of the others (R38). -/
theorem regValue_regWrite_of_ne (s : State) {j k : Nat} (v : Word) (h : j ≠ k) :
    regValue (s.regWrite k v) j = regValue s j := by
  unfold regValue
  split <;> simp [statusWord, Ne.symm h]

/-- STATUS is ILLEGAL in bit 0 and FOUND in bit 1 (R34). -/
theorem statusWord_eq (s : State) :
    statusWord s = BitVec.ofNat 32 (s.illegal.toNat + 2 * s.found.toNat) := by
  unfold statusWord
  cases s.illegal <;> cases s.found <;> rfl

/-- Only the five operand registers store what is written to them (R39, R40). -/
theorem regWrite_of_not_operand (s : State) {k : Nat} (v : Word) (h : k < 2 ∨ 6 < k) :
    s.regWrite k v = s := by
  unfold State.regWrite
  split
  case h_6 => rfl
  all_goals omega

/-- Register numbers above 10 read 0 (R40). -/
theorem regValue_of_undefined (s : State) {k : Nat} (h : 11 ≤ k) : regValue s k = 0 := by
  unfold regValue
  split
  case h_12 => rfl
  all_goals omega

/-- A write to a register other than CMD is finished at once (R36). -/
theorem accessOf_regWrite (s : State) {k : Nat} (v : Word) (h : k ≠ 0) :
    accessOf s (.regWrite k v) = .finished (s.regWrite k v) := by
  rw [accessOf, if_neg h]

/-- What is still in the queue does not matter to a register write. -/
theorem regWrite_host_comm (s : State) (k : Nat) (v : Word) (rest : List HostOp) :
    ({ s with host := rest } : State).regWrite k v = { s.regWrite k v with host := rest } := by
  unfold State.regWrite
  split <;> rfl

/-- Settles O4, register by register for the number written, at once for the others. -/
theorem registerWriteReadsBack : Obligations.RegisterWriteReadsBack := fun s _ v _ h2 h6 =>
  ⟨regValue_regWrite_same s v h2 h6, fun _ hj => regValue_regWrite_of_ne s v hj, rfl, rfl, rfl, rfl⟩

/-- Settles O5: STATUS by its two bits, every other number by the register file's map. -/
theorem registerMapReads : Obligations.RegisterMapReads := fun s _ =>
  ⟨rfl, statusWord_eq s, rfl, rfl, rfl, rfl, rfl, rfl, rfl, rfl, rfl⟩

/-- Settles O6: the access is finished at once, with nothing stored. -/
theorem readOnlyRegistersIgnoreWrites : Obligations.ReadOnlyRegistersIgnoreWrites := by
  intro s k v rest _ hi hq hk
  simp only [List.mem_cons, List.not_mem_nil, or_false] at hk
  refine step_of_finished hi hq ?_
  rw [accessOf_regWrite _ _ (by omega), regWrite_of_not_operand _ _ (by omega)]

/-- Settles O7, operation by operation. -/
theorem hostAccessIsOneStep : Obligations.HostAccessIsOneStep := by
  intro s rest _ hi
  refine ⟨fun k hq => step_of_finished hi hq rfl, fun k v hq hk => ?_,
    fun v hq => step_of_finished hi hq rfl, fun addr len x y w hq => step_of_run hi hq rfl,
    fun addr len x y w hq => step_of_run hi hq rfl, step_of_empty hi⟩
  rw [← regWrite_host_comm]
  exact step_of_finished hi hq (accessOf_regWrite _ _ hk)

/-- Settles O8: numbers from 11 up are no register of the map. -/
theorem undefinedRegistersAreInert : Obligations.UndefinedRegistersAreInert := fun s _ v _ hk =>
  ⟨regValue_of_undefined s hk, regWrite_of_not_operand s v (.inr (by omega))⟩

/-- A write to CMD is the command its word decodes to (R41). -/
theorem accessOf_command (s : State) {v : Word} {i : Instr} (h : decodeCmd v = .ok i) :
    accessOf s (.regWrite 0 v) = .run i s := by
  rw [accessOf, if_pos rfl, writeCmd, h]

/-- A write to CMD of a word that decodes to none raises Illegal (R246). -/
theorem accessOf_illegal (s : State) {v : Word} {e : DecodeError} (h : decodeCmd v = .error e) :
    accessOf s (.regWrite 0 v) = .finished s.raiseIllegal := by
  rw [accessOf, if_pos rfl, writeCmd, h]

/-- Settles O10: the write is the next operation, and what it comes to is decoded from its word. -/
theorem stepRunsWrittenCommand : Obligations.StepRunsWrittenCommand := by
  intro s v rest _ hi hq
  refine ⟨fun i hd => step_of_run hi hq (accessOf_command _ hd), fun e hd => ?_⟩
  rw [step_of_finished hi hq (accessOf_illegal _ hd), State.raiseIllegal, ← hi]

/-! ### Refusals by the model's own choice (log 8, log 11, log 22) -/

/-- A bitmap length that is 0 modulo 128 is no column (R134, R136). -/
theorem colsOf_lenOf_eq_zero {b : Byte} (h : b.toNat % 128 = 0) (tall : Bool) :
    Font.colsOf tall (Font.lenOf b) = 0 := by
  have hlen : Font.lenOf b = 0 := by
    apply BitVec.eq_of_toNat_eq
    simpa [Font.lenOf] using h
  rw [hlen]
  cases tall <;> rfl

/-- A record without columns has no meaning as a glyph (R139). -/
theorem glyphColumns_noColumns {p : Params} {o : Nat} {bl : Byte} (h : Font.blf p o = .ok bl)
    (hz : bl.toNat % 128 = 0) : glyphColumns p o = .error .noColumns := by
  simp [glyphColumns, Font.h16, Font.bitmapLen, Font.cols, h, bind, Except.bind, pure, Except.pure,
    colsOf_lenOf_eq_zero hz]

/-- Without TABULAR a GLYPH reads the columns of its own record. -/
theorem glyphData_noColumns {p : Params} {o : Nat} {kl k0 bl : Byte} (hkl : kl ≠ 0)
    (h1 : Font.keyLen p o = .ok kl) (h2 : Font.keyByte p o 0 = .ok k0)
    (h3 : Font.blf p o = .ok bl) (hz : bl.toNat % 128 = 0) :
    glyphData p false o = .error .noColumns := by
  have hkl' : kl ≠ 0#8 := hkl
  simp [glyphData, glyphUsed, h1, h2, hkl', glyphColumns_noColumns h3 hz, bind, Except.bind, pure,
    Except.pure]

/-- No command or wrapper starts inside another (R41, U15). -/
theorem command_busy {s : State} (c : Command) (h : s.phase ≠ .idle) :
    command c s = .refused .busy :=
  if_neg h

theorem wrapper_busy {s : State} (al : Align) (base len x y w : Word) (h : s.phase ≠ .idle) :
    wrapper al base len x y w s = .refused .busy :=
  if_neg h

/-- Settles O33: the guards of tokens, commands and wrappers, and GLYPH's read of the font. -/
theorem refusalsByName : Obligations.RefusalsByName := by
  intro s i _
  refine ⟨fun hc hp => ?_, fun hc hp => ?_, fun o kl k0 bl hp htab hkl h1 h2 h3 hz => ?_⟩
  · cases i with
    | sp => simp [exec, execSp, hp]
    | kr => simp [exec, execKr, hp]
    | glyph o => simp [exec, execGlyph, hp]
    | skip b => simp [exec, execSkip, hp]
    | _ => exact absurd hc (by simp [isCommand])
  · cases i with
    | layoutL tb m => exact command_busy (.layout .left tb m) hp
    | layoutR tb m => exact command_busy (.layout .right tb m) hp
    | layoutC tb m => exact command_busy (.layout .center tb m) hp
    | resolve => exact command_busy .resolve hp
    | textLeft a l x y w => exact wrapper_busy .left a l x y w hp
    | textCentered a l x y w => exact wrapper_busy .center a l x y w hp
    | _ => exact absurd hc (by simp [isCommand])
  · simp [exec, execGlyph, hp, htab, glyphData_noColumns hkl h1 h2 h3 hz]

end Sys2Proof.Machine

/-! ### Text memory and the surface the events lie on (R64 to R67, R185) -/

namespace Sys2Proof.Machine

/-- The signed value of a sign-extended register is the register's (R8). -/
@[simp] theorem toInt_sext32 (v : Half) : (sext32 v).toInt = v.toInt :=
  BitVec.toInt_signExtend_of_le (by decide)

/-- The column test reads the sink's width and the pixel's x as signed numbers (R67, R185). -/
theorem onSurface_sext32 {sw : Half} {xa : Word} :
    onSurface (sext32 sw) xa = true ↔ 0 ≤ xa.toInt ∧ xa.toInt < sw.toInt := by
  simp [onSurface]

/-- Row `r` of a column is drawn at `y - 4 + r`: 32 bits hold it for every 16-bit Y (R185, R232). -/
theorem toInt_row (y : Half) {r : Nat} (hr : r < 16) :
    (sext32 y - 4 + BitVec.ofNat 32 r).toInt = y.toInt - 4 + r := by
  have hlo := BitVec.le_toInt y
  have hhi := BitVec.toInt_lt (x := y)
  have h4 : (4 : Word).toInt = 4 := rfl
  have hnat : (BitVec.ofNat 32 r).toNat = r := Nat.mod_eq_of_lt (by omega)
  have hr' : (BitVec.ofNat 32 r).toInt = r := by
    rw [BitVec.toInt_eq_toNat_of_lt (by omega), hnat]
  have hsub : (sext32 y - 4).toInt = y.toInt - 4 := by
    rw [BitVec.toInt_sub, toInt_sext32, h4]
    exact Int.bmod_eq_of_le (by omega) (by omega)
  rw [BitVec.toInt_add, hsub, hr']
  exact Int.bmod_eq_of_le (by omega) (by omega)

/-- An event of a column stands at the column's x and in one of its sixteen rows (R185). -/
theorem mem_columnPixels {xa y : Word} {col : Half} {e : Pixel} :
    e ∈ columnPixels xa y col ↔
      ∃ r, r < 16 ∧ col.getLsbD r = true ∧ { x := xa, y := y - 4 + BitVec.ofNat 32 r } = e := by
  simp only [columnPixels, List.mem_filterMap, List.mem_range, Option.ite_none_right_eq_some,
    Option.some.injEq]

/-- The event lies on the surface of the sink in x and in the sixteen rows from Y - 4 in y, as the
registers of `s` give them (R67, R185). -/
def OnSink (s : State) (e : Pixel) : Prop :=
  0 ≤ e.x.toInt ∧ e.x.toInt < s.surfW.toInt ∧
    s.y.toInt - 4 ≤ e.y.toInt ∧ e.y.toInt ≤ s.y.toInt + 11

theorem OnSink.of_mem_columnPixels {s : State} {xa : Word} {col : Half} {e : Pixel}
    (hx : onSurface (sext32 s.surfW) xa = true) (he : e ∈ columnPixels xa (sext32 s.y) col) :
    OnSink s e := by
  obtain ⟨r, hr, -, rfl⟩ := mem_columnPixels.1 he
  obtain ⟨hx0, hxw⟩ := onSurface_sext32.1 hx
  have hrow := toInt_row s.y hr
  exact ⟨hx0, hxw, by rw [hrow]; omega, by rw [hrow]; omega⟩

/-- Column by column: one off the surface emits nothing (R185). -/
theorem OnSink.of_mem_glyphPixels {s : State} {xa : Word} {cols : List Half} {e : Pixel}
    (he : e ∈ glyphPixels (sext32 s.surfW) (sext32 s.y) xa cols) : OnSink s e := by
  induction cols generalizing xa with
  | nil => cases he
  | cons col cols ih =>
    rw [glyphPixels, List.mem_append] at he
    rcases he with he | he
    · split at he
      · rename_i hx
        exact .of_mem_columnPixels hx he
      · cases he
    · exact ih he

theorem OnSink.of_mem_glyphEvents {s : State} {d : GlyphData} {e : Pixel}
    (he : e ∈ glyphEvents s d) : OnSink s e :=
  .of_mem_glyphPixels he

/-- From `s` to `t` pixel events were only appended, all of them on the sink of `s`. -/
def AppendsOnSink (s t : State) : Prop :=
  ∃ es, t.pixels = s.pixels ++ es ∧ ∀ e ∈ es, OnSink s e

theorem AppendsOnSink.of_pixels_eq {s t : State} (h : t.pixels = s.pixels) : AppendsOnSink s t :=
  ⟨[], by simp [h], by simp⟩

/-- What a tick appends in `u` lies on the sink of `s`, when `u` has Y and the width of `s`. -/
theorem AppendsOnSink.trans {s u t : State} (keeps : TickKeeps s u) (h : AppendsOnSink s u)
    (h' : AppendsOnSink u t) : AppendsOnSink s t := by
  obtain ⟨es, hes, hon⟩ := h
  obtain ⟨es', hes', hon'⟩ := h'
  refine ⟨es ++ es', by rw [hes', hes, List.append_assoc], fun e he => ?_⟩
  rcases List.mem_append.1 he with he | he
  · exact hon e he
  · simpa only [OnSink, keeps.y, keeps.surfW] using hon' e he

/-- Of the tokens only GLYPH draws, and it draws on the sink (R185). -/
theorem execToken_appendsOnSink {i : Instr} {s t : State} (h : execToken i s = .next t) :
    AppendsOnSink s t := by
  cases i with
  | sp =>
    obtain ⟨-, ⟨-, rfl⟩ | ⟨-, rfl⟩⟩ := execSp_next h <;> exact .of_pixels_eq (by simp)
  | kr =>
    obtain ⟨-, rfl⟩ := execKr_next h
    exact .of_pixels_eq (by simp)
  | skip b =>
    obtain ⟨-, rfl⟩ := execSkip_next (b := b) h
    exact .of_pixels_eq (by simp)
  | glyph o =>
    obtain ⟨-, d, -, ⟨-, rfl⟩ | ⟨-, rfl⟩⟩ := execGlyph_next h
    · exact .of_pixels_eq (by simp [glyphScratch])
    · refine ⟨if s.measEff then [] else glyphEvents s d, rfl, fun e he => ?_⟩
      split at he
      · cases he
      · exact .of_mem_glyphEvents he
  | _ => exact absurd h (by simp [execToken])

/-- The micro-sequencer's own steps draw nothing (R221). -/
theorem micro_pixels {s t : State} (h : micro s = .next t) : t.pixels = s.pixels := by
  rcases micro_next h with
    ⟨-, rfl⟩ | ⟨c, -, rfl⟩ | ⟨-, rfl⟩ | ⟨mode, m, -, rfl⟩ | ⟨-, hr⟩ | ⟨r, -, rfl⟩
  · rfl
  · rcases checkCommand_cases s c with
      ⟨-, h⟩ | ⟨-, ⟨-, h⟩ | ⟨tb, m, -, h⟩ | ⟨tb, m, -, h⟩ | ⟨tb, m, -, h⟩⟩ <;> simp [h]
  · simp
  · simp
  · obtain ⟨-, r, -, rfl⟩ := resolveRun_next hr
    simp
  · cases r <;> simp [State.finish]

theorem tick_appendsOnSink {s t : State} (h : tick s = .next t) : AppendsOnSink s t := by
  rcases tick_next h with ⟨i, -, ht⟩ | ⟨-, hm⟩
  · exact execToken_appendsOnSink ht
  · exact .of_pixels_eq (micro_pixels hm)

/-- A command draws on the sink alone: Y and the sink's width stay as they are during its run. -/
theorem command_appendsOnSink {c : Command} {s t : State} (h : command c s = .next t) :
    AppendsOnSink s t :=
  have keeps : TickKeeps s (s.startCommand c) := by constructor <;> simp
  (runCommand_induction (P := fun u => TickKeeps s u ∧ AppendsOnSink s u)
    (fun _ _ _ ⟨hk, hd⟩ ht => ⟨hk.trans (tick_keeps ht), hd.trans hk (tick_appendsOnSink ht)⟩)
    ⟨keeps, .of_pixels_eq (by simp)⟩ (command_next h).2).1.2

/-- Settles O54: every tick of the command's run draws on the sink. -/
theorem eventsLieOnTheSurface : Obligations.EventsLieOnTheSurface := by
  intro s t al tb m _ h
  rw [exec_layoutInstr] at h
  exact command_appendsOnSink h

/-- Settles O9: the placement is finished at once, and canonical text memory reads back what is
written to it. -/
theorem placedTextReadsBack : Obligations.PlacedTextReadsBack := by
  intro s a b rest _ hi hq hwf
  exact ⟨_, step_of_finished hi hq rfl, rfl, fun x => Memory.read_write b x hwf⟩

/-- Settles O34: CHECK answers Illegal for each of the four commands. -/
theorem wrappingTextIsIllegal : Obligations.WrappingTextIsIllegal := by
  intro s tb m _ hi hw
  have illegal (c : Command) : exec (commandInstr c) s = .next { s with illegal := true } := by
    rw [exec_commandInstr, command_illegal_eq c hi (textWraps_eq_true.2 hw)]
  exact ⟨illegal (.layout .left tb m), illegal (.layout .right tb m),
    illegal (.layout .center tb m), illegal .resolve⟩

end Sys2Proof.Machine

/-! ### The glyph ROM as records (R95 to R98, R141) -/

namespace Sys2Proof.Font

/-- The byte `bitmap_len_and_flag` of a record with a bitmap of `len` bytes (R96). -/
def shapeByte (tall : Bool) (len : Nat) : Byte := BitVec.ofBool tall ++ BitVec.ofNat 7 len

@[simp] theorem flagOf_shapeByte (tall : Bool) (len : Nat) :
    flagOf (shapeByte tall len) = tall := by
  rw [flagOf, shapeByte, BitVec.getLsbD_append]
  simp

@[simp] theorem lenOf_shapeByte (tall : Bool) (len : Nat) :
    lenOf (shapeByte tall len) = BitVec.ofNat 7 len := by
  rw [lenOf, shapeByte, BitVec.setWidth_append_eq_right]

/-- A byte is the shape byte of its two fields. -/
theorem shapeByte_fields (f : Byte) : shapeByte (flagOf f) (lenOf f).toNat = f := by
  rw [shapeByte, BitVec.ofNat_toNat, BitVec.setWidth_eq]
  apply BitVec.eq_of_getLsbD_eq
  intro i hi
  rw [BitVec.getLsbD_append]
  split
  · simp [lenOf, *]
  · obtain rfl : i = 7 := by omega
    simp [flagOf]

/-- The bytes of a record (R95). -/
def recordBytes (r : Record) : List Byte :=
  BitVec.ofNat 8 r.key.length :: (r.key ++ shapeByte r.tall r.bitmap.length :: r.bitmap)

@[simp] theorem length_recordBytes (r : Record) : (recordBytes r).length = recordLength r := by
  simp [recordBytes, recordLength]
  omega

/-- The lengths of a record's key and bitmap fit their fields (R95, R96). -/
structure Record.Fits (r : Record) : Prop where
  key_pos : 0 < r.key.length
  key_le : r.key.length ≤ 255
  bitmap_le : r.bitmap.length ≤ 127

/-- The key length field holds the key's length. -/
theorem Record.Fits.toNat_keyLength {r : Record} (h : r.Fits) :
    (BitVec.ofNat 8 r.key.length : Byte).toNat = r.key.length :=
  Nat.mod_eq_of_lt (Nat.lt_succ_of_le h.key_le)

/-- A record's key length field is not the sentinel's. -/
theorem Record.Fits.keyLength_ne_zero {r : Record} (h : r.Fits) :
    (BitVec.ofNat 8 r.key.length : Byte) ≠ 0#8 := by
  have hpos : 0 < (BitVec.ofNat 8 r.key.length : Byte).toNat := by
    rw [h.toNat_keyLength]
    exact h.key_pos
  intro hz
  simp [hz] at hpos

/-- The bitmap length field holds the bitmap's length. -/
theorem Record.Fits.toNat_bitmapLength {r : Record} (h : r.Fits) :
    (BitVec.ofNat 7 r.bitmap.length).toNat = r.bitmap.length :=
  Nat.mod_eq_of_lt (Nat.lt_succ_of_le h.bitmap_le)

/-- The bytes `bs` at offset `off` are the records `rs`, one after the other, and the sentinel;
after it anything may stand (R98, R141). -/
inductive Image : Nat → List Byte → List Record → Prop
  | sentinel (off : Nat) (tail : List Byte) : Image off (0 :: tail) []
  | record {r : Record} {bs : List Byte} {rs : List Record} (fits : r.Fits)
      (rest : Image (r.off + recordLength r) bs rs) : Image r.off (recordBytes r ++ bs) (r :: rs)

/-- One step of the parser: a record in front of other bytes. -/
theorem parseRecords_recordBytes {r : Record} (h : r.Fits) {k : Nat} {bs : List Byte}
    {rs : List Record} (hrs : parseRecords k (r.off + recordLength r) bs = some rs) :
    parseRecords (k + 1) r.off (recordBytes r ++ bs) = some (r :: rs) := by
  have hnext : r.off + 2 + r.key.length + r.bitmap.length = r.off + recordLength r := by
    rw [recordLength]
    omega
  simp [recordBytes, parseRecords, h.keyLength_ne_zero, h.toNat_keyLength, h.toNat_bitmapLength,
    hnext, hrs]

/-- The record the parser takes at `off` from a key length `kl` and the bytes after it, where `f`
and `rest` are what follows the key. -/
def headRecord (off : Nat) (kl : Byte) (bs : List Byte) (f : Byte) (rest : List Byte) : Record where
  off := off
  key := bs.take kl.toNat
  tall := flagOf f
  bitmap := rest.take (lenOf f).toNat

section HeadRecord

variable {off : Nat} {kl f : Byte} {bs rest : List Byte}

theorem length_key_headRecord (hdrop : bs.drop kl.toNat = f :: rest) :
    (headRecord off kl bs f rest).key.length = kl.toNat := by
  have hlen := congrArg List.length hdrop
  simp only [List.length_drop, List.length_cons] at hlen
  exact List.length_take_of_le (by omega)

theorem length_bitmap_headRecord (hlen : (lenOf f).toNat ≤ rest.length) :
    (headRecord off kl bs f rest).bitmap.length = (lenOf f).toNat :=
  List.length_take_of_le hlen

theorem fits_headRecord (hkl : kl ≠ 0) (hdrop : bs.drop kl.toNat = f :: rest)
    (hlen : (lenOf f).toNat ≤ rest.length) : (headRecord off kl bs f rest).Fits where
  key_pos := by
    rw [length_key_headRecord hdrop]
    simpa [Nat.pos_iff_ne_zero, BitVec.toNat_eq] using hkl
  key_le := by
    rw [length_key_headRecord hdrop]
    omega
  bitmap_le := by
    rw [length_bitmap_headRecord hlen]
    omega

/-- The bytes the parser takes are the record's. -/
theorem recordBytes_headRecord (hdrop : bs.drop kl.toNat = f :: rest)
    (hlen : (lenOf f).toNat ≤ rest.length) :
    recordBytes (headRecord off kl bs f rest) ++ rest.drop (lenOf f).toNat = kl :: bs := by
  rw [recordBytes, length_key_headRecord hdrop, length_bitmap_headRecord hlen]
  simp only [headRecord, shapeByte_fields, BitVec.ofNat_toNat, BitVec.setWidth_eq,
    List.cons_append, List.append_assoc, List.take_append_drop]
  rw [← hdrop, List.take_append_drop]

end HeadRecord

/-- What the parser of R141 reads stands in the ROM, and its fuel is one for every record and for
the sentinel. -/
theorem image_of_parseRecords {k off : Nat} {bs : List Byte} {rs : List Record}
    (h : parseRecords k off bs = some rs) : Image off bs rs ∧ rs.length < k := by
  induction k generalizing off bs rs with
  | zero => cases h
  | succ k ih =>
    cases bs with
    | nil => cases h
    | cons kl bs =>
      rw [parseRecords] at h
      split at h
      next hkl =>
        subst hkl
        cases h
        exact ⟨.sentinel off bs, Nat.succ_pos k⟩
      next hkl =>
        split at h
        · cases h
        next f rest hdrop =>
          dsimp only at h
          split at h
          · cases h
          next hlen =>
            split at h
            · cases h
            next rs' hrs =>
              cases h
              have hlen' := Nat.le_of_not_lt hlen
              obtain ⟨himg, hk⟩ := ih hrs
              refine ⟨?_, Nat.succ_lt_succ hk⟩
              have hnext : off + 2 + kl.toNat + (lenOf f).toNat =
                  off + recordLength (headRecord off kl bs f rest) := by
                rw [recordLength, length_key_headRecord hdrop, length_bitmap_headRecord hlen']
                omega
              rw [hnext] at himg
              rw [← recordBytes_headRecord (off := off) hdrop hlen']
              exact Image.record (r := headRecord off kl bs f rest)
                (fits_headRecord hkl hdrop hlen') himg

/-- The parser of R141 reads back what stands in the ROM. -/
theorem parseRecords_of_image {off : Nat} {bs : List Byte} {rs : List Record}
    (h : Image off bs rs) {k : Nat} (hk : rs.length < k) : parseRecords k off bs = some rs := by
  induction h generalizing k with
  | sentinel off tail =>
    cases k with
    | zero => cases hk
    | succ k => rfl
  | record fits _ ih =>
    cases k with
    | zero => cases hk
    | succ k => exact parseRecords_recordBytes fits (ih (Nat.lt_of_succ_lt_succ hk))

/-- Every record takes a byte of the ROM, and so does the sentinel. -/
theorem Image.length_lt {off : Nat} {bs : List Byte} {rs : List Record} (h : Image off bs rs) :
    rs.length < bs.length := by
  induction h with
  | sentinel off tail => simp
  | record fits _ ih =>
    simp only [List.length_cons, List.length_append, length_recordBytes, recordLength]
    omega

/-- The record sequence of a font is what stands in its ROM (R141). -/
theorem records_eq_some_iff {p : Params} {rs : List Record} :
    records p = some rs ↔ Image 0 p.font rs :=
  ⟨fun h => (image_of_parseRecords h).1,
    fun h => parseRecords_of_image h (Nat.lt_succ_of_lt h.length_lt)⟩

/-- The record `r` stands in the glyph ROM at its offset. -/
structure Holds (p : Params) (r : Record) : Prop where
  fits : r.Fits
  size : p.font.length ≤ 65536
  bytes : ∃ rest, p.font.drop r.off = recordBytes r ++ rest

/-- Inside the ROM an image goes on after its first record. -/
theorem drop_next {p : Params} {r : Record} {bs : List Byte}
    (h : p.font.drop r.off = recordBytes r ++ bs) : p.font.drop (r.off + recordLength r) = bs := by
  rw [← List.drop_drop, h, List.drop_left' (length_recordBytes r)]

/-- The records of an image stand in the ROM. -/
theorem Image.holds {p : Params} {off : Nat} {bs : List Byte} {rs : List Record}
    (h : Image off bs rs) (size : p.font.length ≤ 65536) (hdrop : p.font.drop off = bs) {r : Record}
    (hr : r ∈ rs) : Holds p r := by
  induction h with
  | sentinel off tail => cases hr
  | record fits _ ih =>
    rcases List.mem_cons.1 hr with rfl | hr
    · exact ⟨fits, size, _, hdrop⟩
    · exact ih (drop_next hdrop) hr

/-- From its first record on, a part of an image is one. -/
theorem Image.suffix {p : Params} {off : Nat} {bs : List Byte} {as rs : List Record} {r : Record}
    (h : Image off bs (as ++ r :: rs)) (hdrop : p.font.drop off = bs) :
    Image r.off (p.font.drop r.off) (r :: rs) := by
  induction as generalizing off bs with
  | nil =>
    cases h with
    | record fits rest => exact hdrop ▸ .record fits rest
  | cons a as ih =>
    cases h with
    | record fits rest => exact ih rest (drop_next hdrop)

end Sys2Proof.Font

/-! ### The accessors of a record that stands in the ROM (R130 to R138) -/

namespace Sys2Proof.Font

theorem Holds.off_lt {p : Params} {r : Record} (h : Holds p r) : r.off < 65536 := by
  obtain ⟨rest, hbytes⟩ := h.bytes
  have hlen := congrArg List.length hbytes
  have hsize := h.size
  simp only [List.length_drop, List.length_append, length_recordBytes, recordLength] at hlen
  omega

/-- A byte of the record is read at its place in the ROM. -/
theorem Holds.romByte {p : Params} {r : Record} (h : Holds p r) {i : Nat} {b : Byte}
    (hb : (recordBytes r)[i]? = some b) : romByte p (r.off + i) = .ok b := by
  obtain ⟨rest, hbytes⟩ := h.bytes
  obtain ⟨hi, -⟩ := List.getElem?_eq_some_iff.1 hb
  have hget : p.font[r.off + i]? = some b := by
    rw [← List.getElem?_drop, hbytes, List.getElem?_append_left hi, hb]
  obtain ⟨hlt, -⟩ := List.getElem?_eq_some_iff.1 hget
  have hsize := h.size
  rw [Font.romByte, if_pos (by omega), hget]

section Accessors

variable {p : Params} {r : Record}

theorem Holds.keyLen (h : Holds p r) : keyLen p r.off = .ok (BitVec.ofNat 8 r.key.length) :=
  h.romByte (i := 0) rfl

theorem Holds.keyByte (h : Holds p r) {i : Nat} {b : Byte} (hb : r.key[i]? = some b) :
    keyByte p r.off i = .ok b := by
  obtain ⟨hi, -⟩ := List.getElem?_eq_some_iff.1 hb
  rw [Font.keyByte, Nat.add_assoc, Nat.add_comm 1 i]
  apply h.romByte
  rw [recordBytes, List.getElem?_cons_succ, List.getElem?_append_left hi, hb]

theorem Holds.blf (h : Holds p r) : blf p r.off = .ok (shapeByte r.tall r.bitmap.length) := by
  have hread : Font.romByte p (r.off + (r.key.length + 1)) =
      .ok (shapeByte r.tall r.bitmap.length) := by
    apply h.romByte
    rw [recordBytes, List.getElem?_cons_succ, List.getElem?_append_right (Nat.le_refl _),
      Nat.sub_self]
    rfl
  rw [Nat.add_comm r.key.length, ← Nat.add_assoc] at hread
  simp [Font.blf, h.keyLen, bind, Except.bind, h.fits.toNat_keyLength, hread]

theorem Holds.h16 (h : Holds p r) : h16 p r.off = .ok r.tall := by
  simp [Font.h16, h.blf, bind, Except.bind, pure, Except.pure]

theorem Holds.bitmapLen (h : Holds p r) :
    bitmapLen p r.off = .ok (BitVec.ofNat 7 r.bitmap.length) := by
  simp [Font.bitmapLen, h.blf, bind, Except.bind, pure, Except.pure]

theorem Holds.bitmapPtr (h : Holds p r) : bitmapPtr p r.off = .ok (r.off + 2 + r.key.length) := by
  simp [Font.bitmapPtr, h.keyLen, h.fits.toNat_keyLength, bind, Except.bind, pure, Except.pure]

theorem Holds.recLen (h : Holds p r) : recLen p r.off = .ok (recordLength r) := by
  simp [Font.recLen, h.keyLen, h.bitmapLen, h.fits.toNat_keyLength, h.fits.toNat_bitmapLength,
    bind, Except.bind, pure, Except.pure, recordLength]

/-- A byte of the bitmap is read behind the key and the shape byte. -/
theorem Holds.bitmapByte (h : Holds p r) {i : Nat} {b : Byte} (hb : r.bitmap[i]? = some b) :
    Font.romByte p (r.off + 2 + r.key.length + i) = .ok b := by
  have hplace : r.off + 2 + r.key.length + i = r.off + (r.key.length + (i + 1) + 1) := by omega
  rw [hplace]
  apply h.romByte
  rw [recordBytes, List.getElem?_cons_succ, List.getElem?_append_right (Nat.le_add_right _ _),
    Nat.add_sub_cancel_left, List.getElem?_cons_succ, hb]

end Accessors

/-! ### Columns (R97, R136, R138) -/

/-- An 8-row bitmap has a column a byte, a 16-row bitmap one for every two (R136). -/
theorem length_bitmapColumns (order : Col16Order) (tall : Bool) (bs : List Byte) :
    (bitmapColumns order tall bs).length = if tall then bs.length / 2 else bs.length := by
  induction tall, bs using bitmapColumns.induct with
  | case1 bs => simp [bitmapColumns]
  | case2 b0 b1 bs ih =>
    simp only [bitmapColumns, List.length_cons, ih, if_true]
    omega
  | case3 bs hshort =>
    match bs, hshort with
    | [], _ => rfl
    | [b], _ => simp [bitmapColumns]
    | b0 :: b1 :: bs, hshort => exact absurd rfl (hshort b0 b1 bs)

/-- The bytes of a 16-row column (R97). -/
theorem bitmapColumns_tall_getElem? {order : Col16Order} {bs : List Byte} {c : Nat} {col : Half}
    (h : (bitmapColumns order true bs)[c]? = some col) :
    ∃ b0 b1, bs[2 * c]? = some b0 ∧ bs[2 * c + 1]? = some b1 ∧ column16 order b0 b1 = col := by
  induction c generalizing bs with
  | zero =>
    match bs, h with
    | b0 :: b1 :: bs, h => exact ⟨b0, b1, rfl, rfl, Option.some.inj h⟩
  | succ c ih =>
    match bs, h with
    | b0 :: b1 :: bs, h => exact ih h

variable {p : Params} {r : Record}

theorem Holds.column (h : Holds p r) {c : Nat} {col : Half}
    (hcol : (recordColumns p.col16 r)[c]? = some col) : column p r.off c = .ok col := by
  rw [recordColumns] at hcol
  cases ht : r.tall with
  | false =>
    rw [ht, bitmapColumns, List.getElem?_map, Option.map_eq_some_iff] at hcol
    obtain ⟨b, hb, rfl⟩ := hcol
    simp [Font.column, h.h16, h.bitmapPtr, ht, h.bitmapByte hb, bind, Except.bind, pure,
      Except.pure]
  | true =>
    rw [ht] at hcol
    obtain ⟨b0, b1, h0, h1, rfl⟩ := bitmapColumns_tall_getElem? hcol
    have hb1 := h.bitmapByte h1
    rw [← Nat.add_assoc] at hb1
    simp [Font.column, h.h16, h.bitmapPtr, ht, h.bitmapByte h0, hb1, bind, Except.bind, pure,
      Except.pure]

/-- The columns read one by one are the record's (R138). -/
theorem Holds.columnsFrom (h : Holds p r) {c k : Nat}
    (hk : c + k ≤ (recordColumns p.col16 r).length) :
    columnsFrom p r.off c k = .ok (((recordColumns p.col16 r).drop c).take k) := by
  induction k generalizing c with
  | zero => rfl
  | succ k ih =>
    have hc : c < (recordColumns p.col16 r).length := by omega
    have hcol := h.column (List.getElem?_eq_getElem hc)
    rw [List.drop_eq_getElem_cons hc, List.take_succ_cons]
    simp [Font.columnsFrom, hcol, ih (c := c + 1) (by omega), bind, Except.bind, pure, Except.pure]

/-- The column count the engine computes is the number of the record's columns (R136). -/
theorem Record.Fits.colsOf (h : r.Fits) (order : Col16Order) :
    colsOf r.tall (BitVec.ofNat 7 r.bitmap.length) =
      BitVec.ofNat 7 (recordColumns order r).length := by
  have hle := h.bitmap_le
  apply BitVec.eq_of_toNat_eq
  rw [recordColumns, length_bitmapColumns]
  cases r.tall with
  | false => rfl
  | true =>
    simp [Font.colsOf, BitVec.toNat_ushiftRight, h.toNat_bitmapLength, Nat.shiftRight_eq_div_pow]
    omega

theorem Holds.cols (h : Holds p r) :
    cols p r.off = .ok (BitVec.ofNat 7 (recordColumns p.col16 r).length) := by
  simp [Font.cols, h.blf, h.fits.colsOf p.col16, bind, Except.bind, pure, Except.pure]

end Sys2Proof.Font

/-! ### The resolver against the record list (R150 to R157) -/

namespace Sys2Proof.Font

variable {p : Params} {r : Record} {q0 : Byte} {q : List Byte} {rs : List Record}

/-- The bytes of a key are compared with the input as long as both last (R154). -/
theorem keyMatches_eq {a : Nat} {key : List Byte} (q : List Byte)
    (hread : ∀ i b, key[i]? = some b → romByte p (a + i) = .ok b) :
    keyMatches p a key.length q = .ok (key.isPrefixOf q) := by
  induction key generalizing a q with
  | nil => rw [List.length_nil, keyMatches, List.isPrefixOf_nil_left]
  | cons k key ih =>
    cases q with
    | nil => rfl
    | cons b q =>
      have hk : romByte p a = .ok k := hread 0 k rfl
      have hrest := ih (a := a + 1) q fun i b hb => by
        rw [Nat.add_assoc, Nat.add_comm 1 i]
        exact hread (i + 1) b hb
      by_cases hkb : k = b
      · simp [keyMatches, hk, hkb, hrest, bind, Except.bind, List.isPrefixOf]
      · simp [keyMatches, hk, hkb, bind, Except.bind, pure, Except.pure, List.isPrefixOf]

theorem Holds.keyMatches (h : Holds p r) (q : List Byte) :
    keyMatches p (r.off + 1) r.key.length q = .ok (r.key.isPrefixOf q) :=
  keyMatches_eq q fun _ _ => h.keyByte

/-- The scan of R153 over a list of records: it stops at the first key that begins above the
input. -/
def scanList (q0 : Byte) (q : List Byte) : List Record → Option Record
  | [] => none
  | r :: rs =>
    if q0 < firstByte r then none
    else if r.key.isPrefixOf (q0 :: q) then some r
    else scanList q0 q rs

theorem Holds.keyByte_zero (h : Holds p r) : Font.keyByte p r.off 0 = .ok (firstByte r) := by
  apply h.keyByte
  rw [firstByte]
  cases hk : r.key with
  | nil => exact absurd h.fits.key_pos (by simp [hk])
  | cons b bs => rfl

/-- The scan of the ROM is the scan of its records. -/
theorem Image.scanRecords {off : Nat} {bs : List Byte} (h : Image off bs rs)
    (size : p.font.length ≤ 65536) (hdrop : p.font.drop off = bs) {fuel : Nat}
    (hfuel : rs.length < fuel) (q0 : Byte) (q : List Byte) :
    scanRecords p q0 q fuel off = .ok ((scanList q0 q rs).map (·.off)) := by
  induction h generalizing fuel with
  | sentinel off tail =>
    obtain ⟨fuel, rfl⟩ := Nat.exists_eq_add_one_of_ne_zero (Nat.ne_zero_of_lt hfuel)
    have hread : p.font[off]? = some 0 := by
      rw [← List.head?_drop, hdrop, List.head?_cons]
    obtain ⟨hlt, -⟩ := List.getElem?_eq_some_iff.1 hread
    have hkl : Font.keyLen p off = .ok 0 := by
      rw [Font.keyLen, Font.romByte, if_pos (by omega), hread]
    simp [Font.scanRecords, hkl, scanList, bind, Except.bind, pure, Except.pure]
  | @record r bs rs fits _ ih =>
    obtain ⟨fuel, rfl⟩ := Nat.exists_eq_add_one_of_ne_zero (Nat.ne_zero_of_lt hfuel)
    have hr : Holds p r := ⟨fits, size, _, hdrop⟩
    have hnext := ih (drop_next hdrop) (fuel := fuel) (by simpa using hfuel)
    have hne := fits.keyLength_ne_zero
    rw [scanList]
    by_cases hlt : q0 < firstByte r
    · simp [Font.scanRecords, hr.keyLen, hne, hr.keyByte_zero, hlt, bind, Except.bind, pure,
        Except.pure]
    · cases hm : r.key.isPrefixOf (q0 :: q) <;>
      simp [Font.scanRecords, hr.keyLen, hne, hr.keyByte_zero, hlt, fits.toNat_keyLength,
        hr.keyMatches, hm, hr.recLen, hnext, bind, Except.bind, pure, Except.pure]

/-- A key that matches the input begins with the input's first byte. -/
theorem firstByte_of_isPrefixOf (hk : r.key ≠ []) (h : r.key.isPrefixOf (q0 :: q) = true) :
    firstByte r = q0 := by
  rw [firstByte]
  cases hkey : r.key with
  | nil => exact absurd hkey hk
  | cons b bs =>
    rw [hkey, List.isPrefixOf, Bool.and_eq_true, beq_iff_eq] at h
    exact h.1

/-- Where no key begins with the input's first byte, none matches. -/
theorem find_eq_none (hkeys : ∀ r ∈ rs, r.key ≠ []) (h : ∀ r ∈ rs, firstByte r ≠ q0) :
    Ref.find rs (q0 :: q) = none := by
  rw [Ref.find, List.find?_eq_none]
  exact fun r hr hm => h r hr (firstByte_of_isPrefixOf (hkeys r hr) hm)

/-- The scan finds nothing where no key matches. -/
theorem scanList_eq_none (h : Ref.find rs (q0 :: q) = none) : scanList q0 q rs = none := by
  induction rs with
  | nil => rfl
  | cons r rs ih =>
    rw [Ref.find, List.find?_cons] at h
    split at h
    · cases h
    next hm =>
      rw [scanList, hm, ih h]
      simp

/-- In one bucket the first key bytes after `b` are not below it (R140 (d)). -/
theorem ascendingOk_cons {b : Byte} {bs : List Byte} (h : ascendingOk (b :: bs) = true) {c : Byte}
    (hc : c ∈ bs) (hb : bucket c = bucket b) : b ≤ c := by
  rw [ascendingOk, Bool.and_eq_true, List.all_eq_true] at h
  simpa [hb, BitVec.le_def] using h.1 c hc

/-- Once a bucket is left it does not come back (R140 (d)). -/
theorem contiguousOk_left {b c d : Byte} {bs : List Byte}
    (h : contiguousOk (b :: c :: bs) = true) (hc : bucket c ≠ bucket b) (hd : d ∈ c :: bs) :
    bucket d ≠ bucket b := by
  rw [contiguousOk, Bool.and_eq_true, List.dropWhile_cons_of_neg (by simpa using hc),
    List.all_eq_true] at h
  simpa using h.1 d hd

/-- In the order of R140 (d) the early exit of the scan, begun in the input's own bucket, loses
nothing. -/
theorem scanList_eq_find (hkeys : ∀ r ∈ rs, r.key ≠ [])
    (hcont : contiguousOk (rs.map firstByte) = true)
    (hasc : ascendingOk (rs.map firstByte) = true)
    (hbucket : ∀ r ∈ rs.head?, bucket (firstByte r) = bucket q0) :
    scanList q0 q rs = Ref.find rs (q0 :: q) := by
  induction rs with
  | nil => rfl
  | cons r rs ih =>
    have hr : bucket (firstByte r) = bucket q0 := hbucket r rfl
    have hkeys' : ∀ r' ∈ rs, r'.key ≠ [] := fun r' hr' => hkeys r' (List.mem_cons_of_mem r hr')
    by_cases hlt : q0 < firstByte r
    · have above : ∀ r' ∈ r :: rs, firstByte r' ≠ q0 := by
        rintro r' hr' rfl
        rcases List.mem_cons.1 hr' with rfl | hr'
        · exact BitVec.lt_irrefl _ hlt
        · exact BitVec.not_le.2 hlt
            (ascendingOk_cons hasc (List.mem_map_of_mem hr') hr.symm)
      have hnone := find_eq_none (q := q) hkeys above
      rw [hnone, scanList_eq_none hnone]
    · rw [scanList, if_neg hlt, Ref.find, List.find?_cons]
      cases hm : r.key.isPrefixOf (q0 :: q) with
      | true => rfl
      | false =>
        rw [if_neg Bool.false_ne_true]
        by_cases hhead : ∀ r' ∈ rs.head?, bucket (firstByte r') = bucket q0
        · simp only [List.map_cons, contiguousOk, ascendingOk, Bool.and_eq_true] at hcont hasc
          exact ih hkeys' hcont.2 hasc.2 hhead
        · obtain ⟨r', hr', hne⟩ : ∃ r' ∈ rs.head?, bucket (firstByte r') ≠ bucket q0 := by
            simpa using hhead
          obtain ⟨rs', rfl⟩ := List.head?_eq_some_iff.1 hr'
          have hnone : Ref.find (r' :: rs') (q0 :: q) = none := find_eq_none hkeys' fun d hd hq =>
            contiguousOk_left hcont (hr ▸ hne) (List.mem_map_of_mem hd) (by rw [hq, hr])
          rw [scanList_eq_none hnone]
          exact hnone.symm

theorem contiguousOk_append {as bs : List Byte} (h : contiguousOk (as ++ bs) = true) :
    contiguousOk bs = true := by
  induction as with
  | nil => exact h
  | cons a as ih =>
    rw [List.cons_append, contiguousOk, Bool.and_eq_true] at h
    exact ih h.2

theorem ascendingOk_append {as bs : List Byte} (h : ascendingOk (as ++ bs) = true) :
    ascendingOk bs = true := by
  induction as with
  | nil => exact h
  | cons a as ih =>
    rw [List.cons_append, ascendingOk, Bool.and_eq_true] at h
    exact ih h.2

/-- What `WF_FONT` says of a font's records (R140). -/
structure WellFormed (p : Params) (rs : List Record) : Prop where
  size : p.font.length ≤ 65536
  image : Image 0 p.font rs
  firstOffsets : firstOffsetsOk rs = true
  index : indexOk p rs = true
  contiguous : contiguousOk (rs.map firstByte) = true
  ascending : ascendingOk (rs.map firstByte) = true
  shapes : ∀ r ∈ rs, shapeOk r = true

theorem wellFormed_of_records (h : fontOk p = true) (hrs : records p = some rs) :
    WellFormed p rs := by
  simp only [fontOk, fontSizeOk, hrs, recordsOk, Bool.and_eq_true, decide_eq_true_eq,
    List.all_eq_true] at h
  obtain ⟨⟨-, hsize⟩, ⟨⟨⟨hfirst, hindex⟩, hcont⟩, hasc⟩, hshape⟩ := h
  exact ⟨hsize, records_eq_some_iff.1 hrs, hfirst, hindex, hcont, hasc, hshape⟩

/-- A well-formed PFLE has its record list. -/
theorem wellFormed_of_wf (h : p.wf = true) : ∃ rs, records p = some rs ∧ WellFormed p rs := by
  rw [Params.wf, Bool.and_eq_true] at h
  cases hrs : records p with
  | none => simp [fontOk, hrs] at h
  | some rs => exact ⟨rs, rfl, wellFormed_of_records h.1 hrs⟩

theorem WellFormed.holds (h : WellFormed p rs) (hr : r ∈ rs) : Holds p r :=
  h.image.holds h.size rfl hr

theorem WellFormed.key_ne_nil (h : WellFormed p rs) (hr : r ∈ rs) : r.key ≠ [] :=
  List.ne_nil_of_length_pos (h.holds hr).fits.key_pos

/-- The index entry of a bucket is the one R140 (c) asks for. -/
theorem WellFormed.indexEntry (h : WellFormed p rs) (b : Byte) :
    indexEntry p b = indexEntryFor rs (bucket b) := by
  have hall := h.index
  rw [indexOk, List.all_eq_true] at hall
  simpa [Font.indexEntry] using hall (bucket b).toFin (List.mem_finRange _)

/-- The first record of a bucket starts in the half of the ROM that an index entry reaches
(R140 (b)). -/
theorem WellFormed.first_off_lt (h : WellFormed p rs)
    (hfind : rs.find? (fun r' => bucket (firstByte r') == bucket q0) = some r) :
    r.off < 32768 := by
  have hall := h.firstOffsets
  have hr : bucket (firstByte r) = bucket q0 := by simpa using List.find?_some hfind
  rw [firstOffsetsOk, List.all_eq_true] at hall
  simpa [hr, hfind] using hall r (List.mem_of_find?_eq_some hfind)

/-- An offset that an index entry can hold is neither the empty entry nor a reserved one (R100,
R101). -/
theorem indexEntry_of_off_lt {o : Nat} (h : o < 32768) :
    (BitVec.ofNat 16 o : Half).toNat = o ∧ (BitVec.ofNat 16 o : Half) ≠ 0xFFFF#16 ∧
      (BitVec.ofNat 16 o : Half).msb = false := by
  have htoNat : (BitVec.ofNat 16 o : Half).toNat = o := Nat.mod_eq_of_lt (by omega)
  refine ⟨htoNat, fun he => ?_, ?_⟩
  · rw [he, BitVec.toNat_ofNat] at htoNat
    omega
  · rw [BitVec.msb_eq_decide, htoNat]
    simpa using h

/-- The records before the first one of the input's bucket do not match, and from it on the scan
finds what there is to find. -/
theorem WellFormed.find_from_bucket {as bs : List Record} (h : WellFormed p (as ++ r :: bs))
    (hr : bucket (firstByte r) = bucket q0) (has : ∀ a ∈ as, bucket (firstByte a) ≠ bucket q0) :
    Ref.find (as ++ r :: bs) (q0 :: q) = scanList q0 q (r :: bs) := by
  have hskip : Ref.find as (q0 :: q) = none :=
    find_eq_none (fun a ha => h.key_ne_nil (List.mem_append_left _ ha))
      fun a ha hq => has a ha (by rw [hq])
  have hcont := h.contiguous
  have hasc := h.ascending
  rw [List.map_append] at hcont hasc
  have hscan : scanList q0 q (r :: bs) = Ref.find (r :: bs) (q0 :: q) :=
    scanList_eq_find (fun b hb => h.key_ne_nil (List.mem_append_right as hb))
      (contiguousOk_append hcont) (ascendingOk_append hasc) (by simpa using hr)
  rw [hscan, Ref.find, List.find?_append]
  rw [Ref.find] at hskip
  rw [hskip, Option.none_or]
  rfl

/-- R157: the resolver finds the first record in table order with whose key the input begins. -/
theorem WellFormed.resolve (h : WellFormed p rs) (q : List Byte) :
    resolve p q = .ok ((Ref.find rs q).map (·.off)) := by
  cases q with
  | nil =>
    have hnone : Ref.find rs [] = none := by
      rw [Ref.find, List.find?_eq_none]
      exact fun r hr hm => h.key_ne_nil hr (List.prefix_nil.1 (List.isPrefixOf_iff_prefix.1 hm))
    rw [hnone]
    rfl
  | cons q0 q =>
    rw [Font.resolve, h.indexEntry, indexEntryFor]
    cases hfind : rs.find? (fun r => bucket (firstByte r) == bucket q0) with
    | none =>
      rw [List.find?_eq_none] at hfind
      have hnone : Ref.find rs (q0 :: q) = none :=
        find_eq_none (fun r hr => h.key_ne_nil hr) fun r hr hq => hfind r hr (by simp [hq])
      rw [hnone]
      rfl
    | some r =>
      obtain ⟨htoNat, hne, hmsb⟩ := indexEntry_of_off_lt (h.first_off_lt hfind)
      obtain ⟨hr, as, bs, rfl, has⟩ := List.find?_eq_some_iff_append.1 hfind
      have hlen := h.image.length_lt
      rw [List.length_append] at hlen
      have hscan := (h.image.suffix rfl).scanRecords h.size rfl (fuel := p.font.length + 1)
        (by omega) q0 q
      have hlist := h.find_from_bucket (q := q) (by simpa using hr) (by simpa using has)
      rw [if_neg hne, hmsb, if_neg Bool.false_ne_true, htoNat, hscan, hlist]

end Sys2Proof.Font

/-! ### Text tokens are spelled and read (R110 to R116, R173) -/

namespace Sys2Proof

open Font (Record WellFormed)

variable {p : Params} {rs : List Record} {r : Record}

/-- A record that the text can spell is the one its key is resolved to (R156). -/
theorem find_key_of_spellable (hr : rs.find? (fun r' => r'.off == r.off) = some r)
    (hs : spellable p rs r = true) : Ref.find rs r.key = some r := by
  rw [spellable, Bool.and_eq_true, List.all_eq_true] at hs
  obtain ⟨-, as, bs, rfl, has⟩ := List.find?_eq_some_iff_append.1 hr
  have hbefore : (as ++ r :: bs).takeWhile (fun r' => r'.off != r.off) = as := by
    rw [List.takeWhile_append_of_pos (by simpa using has)]
    simp
  rw [hbefore] at hs
  exact List.find?_eq_some_iff_append.2
    ⟨List.isPrefixOf_iff_prefix.2 List.prefix_rfl, as, bs, rfl, hs.2⟩

/-- Under `WF_FONT` every byte begins a token, found in the order of R173. -/
theorem decodeToken_eq (hwf : WellFormed p rs) (c : Byte) (cs : List Byte) :
    decodeToken p c cs = .ok
      (if c = Config.spaceByte then .sp
      else if c = p.kreset then .kr
      else match Ref.find rs (c :: cs) with
        | some r => .glyph (BitVec.ofNat 17 r.off)
        | none => .skip c) := by
  rw [decodeToken, hwf.resolve]
  cases Ref.find rs (c :: cs) <;> split_ifs <;> rfl

/-- Text whose first byte is neither a space nor a kerning reset is what the resolver finds
(R173). -/
theorem decodeText_of_ne {c : Byte} {cs : List Byte} (hwf : WellFormed p rs)
    (hsp : c ≠ Config.spaceByte) (hkr : c ≠ p.kreset) :
    decodeText p (c :: cs) = .ok (match Ref.find rs (c :: cs) with
      | some r => .glyph (BitVec.ofNat 17 r.off)
      | none => .skip c) := by
  rw [decodeText, decodeToken_eq hwf, if_neg hsp, if_neg hkr]

/-- The key of a record the text can spell is read as its GLYPH token. -/
theorem decodeText_key (hwf : WellFormed p rs) (hr : rs.find? (fun r' => r'.off == r.off) = some r)
    (hs : spellable p rs r = true) :
    decodeText p r.key = .ok (.glyph (BitVec.ofNat 17 r.off)) := by
  have hfind := find_key_of_spellable hr hs
  have hne := hwf.key_ne_nil (List.mem_of_find?_eq_some hr)
  simp only [spellable, Bool.and_eq_true, bne_iff_ne] at hs
  obtain ⟨⟨hsp, hkr⟩, -⟩ := hs
  rw [Font.firstByte] at hsp hkr
  obtain ⟨c, cs, hkey⟩ := List.exists_cons_of_ne_nil hne
  rw [hkey, List.headD_cons] at hsp hkr
  rw [hkey] at hfind ⊢
  rw [decodeText_of_ne hwf hsp hkr, hfind]

/-- A byte that no other token claims is read as SKIP. -/
theorem decodeText_unclaimed {b : Byte} (hwf : WellFormed p rs) (hsp : b ≠ Config.spaceByte)
    (hkr : b ≠ p.kreset) (hb : ∀ r ∈ rs, r.key ≠ [b]) : decodeText p [b] = .ok (.skip b) := by
  have hnone : Ref.find rs [b] = none := by
    rw [Ref.find, List.find?_eq_none]
    intro r hr hm
    have hle : r.key.length ≤ 1 := (List.isPrefixOf_iff_prefix.1 hm).length_le
    have hpos := List.length_pos_of_ne_nil (hwf.key_ne_nil hr)
    exact hb r hr ((List.isPrefixOf_iff_prefix.1 hm).eq_of_length (by simp; omega))
  rw [decodeText_of_ne hwf hsp hkr, hnone]

/-- Settles O19: the forms of commands and wrappers, and each token by what claims its bytes. -/
theorem decodeEncodeRoundTrip : Obligations.DecodeEncodeRoundTrip := by
  intro p i hp hi
  obtain ⟨rs, hrs, hwf⟩ := Font.wellFormed_of_wf hp
  cases i with
  | layoutL tb m => exact Laws.EncodingForm.layoutL tb m p
  | layoutR tb m => exact Laws.EncodingForm.layoutR tb m p
  | layoutC tb m => exact Laws.EncodingForm.layoutC tb m p
  | resolve => exact Laws.EncodingForm.resolve p
  | textLeft addr len x y w => exact Laws.EncodingForm.textLeft addr len x y w p
  | textCentered addr len x y w => exact Laws.EncodingForm.textCentered addr len x y w p
  | sp => rfl
  | kr =>
    have hne : p.kreset ≠ Config.spaceByte := by simpa [Instr.wf] using hi
    simp [encode, decode, decodeText, decodeToken, hne]
  | glyph o =>
    simp only [Instr.wf, hrs] at hi
    cases hr : rs.find? (fun r => r.off == o.toNat) with
    | none => simp [hr] at hi
    | some r =>
      have hoff : r.off = o.toNat := by simpa using List.find?_some hr
      simp only [hr] at hi
      simp only [encode, decode, glyphBytes, Font.recordAt, hrs, hr]
      rw [← hoff] at hr
      rw [decodeText_key hwf hr hi, hoff, BitVec.ofNat_toNat, BitVec.setWidth_eq]
  | skip b =>
    simp only [Instr.wf, hrs, Bool.and_eq_true, bne_iff_ne, List.all_eq_true] at hi
    obtain ⟨⟨hsp, hkr⟩, hb⟩ := hi
    exact decodeText_unclaimed hwf hsp hkr hb

end Sys2Proof

/-! ### What a GLYPH of a record reads of a well-formed font (R177 to R180) -/

namespace Sys2Proof.Font

open Machine (glyphColumns glyphUsed glyphData GlyphData isDigit resolveInfo)

variable {p : Params} {rs : List Record} {r : Record}

/-- The columns of a record of good shape fit the seven bits of `w`, and there is one (R139). -/
theorem Record.Fits.toNat_columnCount (h : r.Fits) (order : Col16Order) :
    (BitVec.ofNat 7 (recordColumns order r).length).toNat = (recordColumns order r).length := by
  have hle := h.bitmap_le
  refine Nat.mod_eq_of_lt ?_
  rw [recordColumns, length_bitmapColumns]
  split <;> omega

theorem columnCount_pos_of_shapeOk (h : shapeOk r = true) (order : Col16Order) :
    0 < (recordColumns order r).length := by
  rw [recordColumns, length_bitmapColumns]
  rw [shapeOk] at h
  cases ht : r.tall with
  | false => simpa [ht, List.length_pos_iff] using h
  | true =>
    simp only [ht, if_true, Bool.and_eq_true, bne_iff_ne, beq_iff_eq] at h ⊢
    omega

/-- A 16-row record of good shape has whole columns (R136). -/
theorem bitmapLength_even_of_shapeOk (h : shapeOk r = true) :
    (r.tall && (BitVec.ofNat 7 r.bitmap.length).getLsbD 0) = false := by
  rw [shapeOk] at h
  cases ht : r.tall with
  | false => rfl
  | true =>
    simp only [ht, if_true, Bool.and_eq_true, beq_iff_eq] at h
    rw [BitVec.getLsbD_ofNat, Nat.testBit_zero, h.2]
    rfl

theorem Holds.glyphColumns (h : Holds p r) (hshape : shapeOk r = true) :
    glyphColumns p r.off =
      .ok (BitVec.ofNat 7 (recordColumns p.col16 r).length, recordColumns p.col16 r) := by
  have hcount := h.fits.toNat_columnCount p.col16
  have hpos := columnCount_pos_of_shapeOk hshape p.col16
  have hne : BitVec.ofNat 7 (recordColumns p.col16 r).length ≠ 0#7 := by
    intro hz
    rw [hz, BitVec.toNat_ofNat] at hcount
    omega
  have hall := h.columnsFrom (c := 0) (k := (recordColumns p.col16 r).length) (by omega)
  rw [List.drop_zero, List.take_length] at hall
  simp only [Machine.glyphColumns, h.h16, h.bitmapLen, h.cols, bind, Except.bind, pure, Except.pure,
    bitmapLength_even_of_shapeOk hshape, Bool.false_eq_true, if_false, hcount, hall]
  exact if_neg hne

theorem Holds.resolveInfo (h : Holds p r) :
    resolveInfo p r.off = .ok
      (BitVec.ofBool r.tall ++ BitVec.ofNat 7 r.bitmap.length ++ BitVec.ofNat 8 r.key.length) := by
  simp [Machine.resolveInfo, h.h16, h.bitmapLen, h.keyLen, bind, Except.bind, pure, Except.pure]

/-- The digit test on the ROM's fields is the test on the record (R117, R177). -/
theorem Record.Fits.isDigit (h : r.Fits) :
    isDigit (BitVec.ofNat 8 r.key.length) (firstByte r) = Ref.digit r := by
  have hone : (BitVec.ofNat 8 r.key.length == 1#8) = (r.key.length == 1) := by
    rw [Bool.eq_iff_iff, beq_iff_eq, beq_iff_eq, BitVec.toNat_eq, h.toNat_keyLength]
    rfl
  rw [Machine.isDigit, Ref.digit, hone]

theorem used_mem (hr : r ∈ rs) (tab : Bool) : Ref.used p rs tab r ∈ rs := by
  rw [Ref.used]
  split
  · cases hf : Ref.find rs [p.esc, firstByte r] with
    | none => exact hr
    | some r2 => exact List.mem_of_find?_eq_some hf
  · exact hr

theorem WellFormed.glyphUsed (h : WellFormed p rs) (tab : Bool) :
    glyphUsed p (tab && Ref.digit r) (firstByte r) r.off = .ok (Ref.used p rs tab r).off := by
  rw [Machine.glyphUsed, Ref.used, h.resolve]
  split
  · cases Ref.find rs [p.esc, firstByte r] <;> rfl
  · rfl

/-- Everything GLYPH reads of a record and its bitmap, for every record of the font. -/
theorem WellFormed.glyphData (h : WellFormed p rs) (hr : r ∈ rs) (tab : Bool) :
    glyphData p tab r.off = .ok
      { kl := BitVec.ofNat 8 r.key.length
        k0 := firstByte r
        dg := Ref.digit r
        g := (Ref.used p rs tab r).off
        w := BitVec.ofNat 7 (recordColumns p.col16 (Ref.used p rs tab r)).length
        columns := recordColumns p.col16 (Ref.used p rs tab r) } := by
  have hold := h.holds hr
  have hmem := used_mem (p := p) hr tab
  have hcols := (h.holds hmem).glyphColumns (h.shapes _ hmem)
  simp only [Machine.glyphData, hold.keyLen, hold.keyByte_zero, hold.fits.isDigit, h.glyphUsed tab,
    hcols, bind, Except.bind, pure, Except.pure]
  exact if_neg hold.fits.keyLength_ne_zero

end Sys2Proof.Font

/-! ### Under `WF_FONT` a command always completes (R41, R291) -/

namespace Sys2Proof.Machine

open Host (Outcome)
open Font (WellFormed)

variable {s : State}

/-- A GLYPH inside a pass has the effect of what it reads of the font (R189). -/
theorem execGlyph_of_glyphData {o : Offset} {d : GlyphData} (hp : s.phase.inPass = true)
    (hd : glyphData s.par s.tab o.toNat = .ok d) :
    execGlyph o s = .next (glyphEffect s o d) := by
  rw [execGlyph, if_pos hp, hd]

/-- A token decoded at the cursor of a pass is executed. -/
theorem execToken_progress_of_decodeToken {rs : List Font.Record} (hwf : WellFormed s.par rs)
    (hp : s.phase.inPass = true) {c : Byte} {cs : List Byte} {i : Instr}
    (hd : decodeToken s.par c cs = .ok i) : ∃ t, execToken i s = .next t := by
  obtain ⟨-, rfl⟩ | ⟨-, -, rfl⟩ | ⟨-, -, ⟨o, ho, rfl⟩ | ⟨-, rfl⟩⟩ := decodeToken_ok hd
  · exact ⟨_, if_pos hp⟩
  · exact ⟨_, if_pos hp⟩
  · rw [hwf.resolve] at ho
    obtain ⟨r, hr, rfl⟩ := Option.map_eq_some_iff.1 (Except.ok.inj ho)
    have hmem := List.mem_of_find?_eq_some hr
    have hoff : (BitVec.ofNat 17 r.off).toNat = r.off :=
      Nat.mod_eq_of_lt (by have := (hwf.holds hmem).off_lt; omega)
    exact ⟨_, execGlyph_of_glyphData hp (by rw [hoff, hwf.glyphData hmem])⟩
  · exact ⟨_, if_pos hp⟩

/-- Under `WF_FONT` RESOLVE_RUN has a result for every text: the first record in table order with
whose key it begins, and that record's RES_INFO (R159). -/
theorem resolveText_eq {rs : List Font.Record} (hwf : WellFormed s.par rs) :
    resolveText s = .ok ((Ref.find rs (commandText s)).map fun r => (r.off,
      BitVec.ofBool r.tall ++ BitVec.ofNat 7 r.bitmap.length ++ BitVec.ofNat 8 r.key.length)) := by
  rw [resolveText, hwf.resolve]
  cases hf : Ref.find rs (commandText s) with
  | none => rfl
  | some r =>
    have hinfo := (hwf.holds (List.mem_of_find?_eq_some hf)).resolveInfo
    simp [hinfo, bind, Except.bind, pure, Except.pure]

theorem micro_progress {rs : List Font.Record} (hwf : WellFormed s.par rs)
    (hw : textWraps s = false) : ∃ t, micro s = .next t := by
  rw [micro]
  cases s.phase with
  | resolveRun =>
    exact ⟨s.endResolve _, by simp only [resolveRun, hw, resolveText_eq hwf]; rfl⟩
  | _ => exact ⟨_, rfl⟩

/-- Where the text lies in text memory, every tick has a next state. -/
theorem tick_progress {rs : List Font.Record} (hwf : WellFormed s.par rs)
    (hw : textWraps s = false) : ∃ t, tick s = .next t := by
  have hmicro := micro_progress hwf hw
  cases hp : s.phase.inPass with
  | false => rwa [tick_outside hp]
  | true =>
    cases hrest : remainingText s with
    | nil => simpa [tick, fetch, hp, hw, hrest] using hmicro
    | cons c cs =>
      obtain ⟨t, ht⟩ :=
        execToken_progress_of_decodeToken hwf hp (decodeToken_eq hwf c cs)
      exact ⟨t, by simpa [tick, fetch, hp, hw, hrest, decodeToken_eq hwf c cs] using ht⟩

/-- Only an idle engine has no tick to come. -/
theorem idle_of_no_ticksLeft (h : ticksLeft s = 0) : s.phase = .idle := by
  unfold ticksLeft at h
  split at h
  · assumption
  all_goals omega

/-- A run with fuel for the ticks that are left comes to its end. -/
theorem runCommand_progress {rs : List Font.Record} {k : Nat} (hwf : WellFormed s.par rs)
    (hw : textWraps s = false) (hk : ticksLeft s ≤ k) : ∃ t, runCommand k s = .next t := by
  induction k generalizing s with
  | zero => exact ⟨s, runCommand_done (idle_of_no_ticksLeft (Nat.le_zero.1 hk))⟩
  | succ k ih =>
    by_cases hi : s.phase = .idle
    · exact ⟨s, runCommand_done hi⟩
    · obtain ⟨u, hu⟩ := tick_progress hwf hw
      have keeps := tick_keeps hu
      have hlt := ticksLeft_tick_lt hi hu
      rw [runCommand_step hi hu]
      exact ih (keeps.par.symm ▸ hwf) (by rwa [textWraps, keeps.textBase, keeps.textLen])
        (by omega)

/-- Under `WF_FONT` every command of an idle engine completes, Illegal for a text that wraps. -/
theorem command_progress (c : Command) (hwf : s.par.wf = true) (hi : s.phase = .idle) :
    ∃ t, command c s = .next t := by
  cases hw : textWraps s with
  | true => exact ⟨_, command_illegal c hi hw⟩
  | false =>
    obtain ⟨rs, -, hfont⟩ := Font.wellFormed_of_wf hwf
    rw [command, if_pos hi]
    exact runCommand_progress (s := s.startCommand c) hfont hw (Nat.le_refl _)

/-! ### The wrappers (R119, R219, R220) -/

/-- A wrapper completes with its LAYOUT command's result and the read of WIDTH_USED. -/
theorem wrapper_result (al : Align) (base len x y w : Word) (hwf : s.par.wf = true)
    (hi : s.phase = .idle) :
    ∃ u, wrapper al base len x y w s = .next (u.regRead 7) ∧
      command (.layout al false false) (s.writeOperands base len x y w) = .next u ∧
      u.reads = s.reads ∧ u.host = s.host := by
  obtain ⟨u, hu⟩ := command_progress (s := s.writeOperands base len x y w)
    (.layout al false false) (by simpa using hwf) (by simpa using hi)
  have keeps := command_keeps hu
  exact ⟨u, by rw [wrapper, if_pos hi, hu], hu, by simpa using keeps.reads,
    by simpa using keeps.host⟩

/-- Settles O38: both wrappers by the result of their LAYOUT command. -/
theorem wrapperResult : Obligations.WrapperResult := by
  intro s addr len x y w hwf hi
  have result (al : Align) :
      ∃ t u, wrapper al addr len x y w s = .next t ∧
        command (.layout al false false) (s.writeOperands addr len x y w) = .next u ∧
        t = { u with reads := s.reads ++ [u.widthUsed] } := by
    obtain ⟨u, ht, hu, hreads, -⟩ := wrapper_result al addr len x y w hwf hi
    exact ⟨_, u, ht, hu, by rw [State.regRead, hreads]; rfl⟩
  exact ⟨result .left, result .center⟩

end Sys2Proof.Machine

/-! ### A command's run does not read the host's queue (log 7, R119) -/

namespace Sys2Proof.Machine

open Host (Outcome)

/-- The state with another queue of host operations to come. -/
def State.withQueue (s : State) (q : List HostOp) : State := { s with host := q }

/-- An outcome with another queue in its next state. -/
def outcomeWithQueue (q : List HostOp) : Outcome State Fault Refusal → Outcome State Fault Refusal
  | .next s => .next (s.withQueue q)
  | .fault f => .fault f
  | .refused r => .refused r

section WithQueue

variable (s : State) (q : List HostOp)

@[simp] theorem withQueue_phase : (s.withQueue q).phase = s.phase := rfl
@[simp] theorem withQueue_par : (s.withQueue q).par = s.par := rfl
@[simp] theorem withQueue_tab : (s.withQueue q).tab = s.tab := rfl
@[simp] theorem withQueue_n : (s.withQueue q).n = s.n := rfl
@[simp] theorem withQueue_mwEff : (s.withQueue q).mwEff = s.mwEff := rfl
@[simp] theorem textWraps_withQueue : textWraps (s.withQueue q) = textWraps s := rfl
@[simp] theorem resolveText_withQueue : resolveText (s.withQueue q) = resolveText s := rfl
@[simp] theorem fetch_withQueue : fetch (s.withQueue q) = fetch s := rfl

@[simp] theorem inCell_withQueue (d : GlyphData) : inCell (s.withQueue q) d = inCell s d := rfl
@[simp] theorem gapOf_withQueue (d : GlyphData) : gapOf (s.withQueue q) d = gapOf s d := rfl

theorem withQueue_self : s.withQueue s.host = s := rfl

theorem endPass_withQueue : (s.withQueue q).endPass = s.endPass.withQueue q := by
  rw [State.endPass, State.endPass, withQueue_phase]
  cases s.phase <;> rfl

theorem spaceEffect_withQueue : spaceEffect (s.withQueue q) = (spaceEffect s).withQueue q := by
  rw [spaceEffect, spaceEffect, withQueue_n, withQueue_mwEff]
  split
  · exact endPass_withQueue s q
  · rfl

theorem glyphEffect_withQueue (o : Offset) (d : GlyphData) :
    glyphEffect (s.withQueue q) o d = (glyphEffect s o d).withQueue q := by
  rw [glyphEffect, glyphEffect, withQueue_n, withQueue_mwEff, inCell_withQueue, gapOf_withQueue]
  split
  · exact endPass_withQueue (glyphScratch s o d) q
  · rfl

theorem execToken_withQueue (i : Instr) :
    execToken i (s.withQueue q) = outcomeWithQueue q (execToken i s) := by
  cases i with
  | sp =>
    change execSp (s.withQueue q) = outcomeWithQueue q (execSp s)
    rw [execSp, execSp, withQueue_phase, spaceEffect_withQueue]
    split <;> rfl
  | kr =>
    change execKr (s.withQueue q) = outcomeWithQueue q (execKr s)
    rw [execKr, execKr, withQueue_phase]
    split <;> rfl
  | skip b =>
    change execSkip b (s.withQueue q) = outcomeWithQueue q (execSkip b s)
    rw [execSkip, execSkip, withQueue_phase]
    split <;> rfl
  | glyph o =>
    change execGlyph o (s.withQueue q) = outcomeWithQueue q (execGlyph o s)
    rw [execGlyph, execGlyph, withQueue_phase, withQueue_par, withQueue_tab]
    split
    · cases glyphData s.par s.tab o.toNat with
      | ok d => exact congrArg Outcome.next (glyphEffect_withQueue s q o d)
      | error d => rfl
    · rfl
  | _ => rfl

theorem checkCommand_withQueue (c : Command) :
    (s.withQueue q).checkCommand c = (s.checkCommand c).withQueue q := by
  unfold State.checkCommand
  rw [textWraps_withQueue]
  split
  · rfl
  · rcases c with ⟨_ | _ | _, tb, m⟩ | _ <;> rfl

theorem resolveRun_withQueue :
    resolveRun (s.withQueue q) = outcomeWithQueue q (resolveRun s) := by
  rw [resolveRun, resolveRun, textWraps_withQueue, resolveText_withQueue]
  split
  · rfl
  · cases resolveText s <;> rfl

theorem micro_withQueue : micro (s.withQueue q) = outcomeWithQueue q (micro s) := by
  rw [micro, micro, withQueue_phase]
  cases s.phase with
  | check c => exact congrArg Outcome.next (checkCommand_withQueue s q c)
  | pass1 mode m => exact congrArg Outcome.next (endPass_withQueue s q)
  | pass2 aligned => exact congrArg Outcome.next (endPass_withQueue s q)
  | resolveRun => exact resolveRun_withQueue s q
  | done r => cases r <;> rfl
  | _ => rfl

theorem tick_withQueue : tick (s.withQueue q) = outcomeWithQueue q (tick s) := by
  rw [tick, tick, fetch_withQueue]
  rcases fetch s with (_ | i) | f | r
  · exact micro_withQueue s q
  · exact execToken_withQueue s q i
  · rfl
  · rfl

theorem runCommand_withQueue (k : Nat) :
    runCommand k (s.withQueue q) = outcomeWithQueue q (runCommand k s) := by
  induction k generalizing s with
  | zero =>
    rw [runCommand, runCommand, withQueue_phase]
    split <;> rfl
  | succ k ih =>
    rw [runCommand, runCommand, withQueue_phase, tick_withQueue]
    split
    · rfl
    · cases tick s with
      | next t => exact ih t
      | fault f => rfl
      | refused r => rfl

/-- A command answers the same whatever the host has still to do. -/
theorem command_withQueue (c : Command) :
    command c (s.withQueue q) = outcomeWithQueue q (command c s) := by
  rw [command, command, withQueue_phase]
  split
  · exact runCommand_withQueue (s.startCommand c) q (commandFuel s)
  · rfl

end WithQueue

/-! ### A wrapper as its seven accesses (R119) -/

/-- The word of the LAYOUT command with alignment `al` and no options (R92). -/
def wrapperWord (al : Align) : Word :=
  match al with
  | .left => 0x10#32
  | .right => 0x11#32
  | .center => 0x12#32

theorem decodeCmd_wrapperWord (al : Align) :
    decodeCmd (wrapperWord al) = .ok (commandInstr (.layout al false false)) := by
  cases al <;> rfl

variable {s : State}

/-- An operation at the head of an idle engine's queue that is finished at once is one step. -/
theorem step_withQueue_finished {t : State} {op : HostOp} {q : List HostOp} (hi : s.phase = .idle)
    (h : accessOf (s.withQueue q) op = .finished t) :
    Sys2Proof.core.step (s.withQueue (op :: q)) = .next t :=
  step_of_finished (s := s.withQueue (op :: q)) hi rfl h

/-- A register write at the head of an idle engine's queue stores and is gone. -/
theorem step_withQueue_regWrite (hi : s.phase = .idle) (q : List HostOp) {k : Nat} (v : Word)
    (hk : k ≠ 0) :
    Sys2Proof.core.step (s.withQueue (.regWrite k v :: q)) =
      .next ((s.regWrite k v).withQueue q) :=
  (step_withQueue_finished hi (accessOf_regWrite _ v hk)).trans
    (congrArg Outcome.next (regWrite_host_comm s k v q))

/-- A command word at the head of an idle engine's queue runs its command with what is left of the
queue. -/
theorem step_withQueue_command {c : Command} {u : State} {v : Word} (hi : s.phase = .idle)
    (q : List HostOp) (hv : decodeCmd v = .ok (commandInstr c)) (hu : command c s = .next u) :
    Sys2Proof.core.step (s.withQueue (.regWrite 0 v :: q)) = .next (u.withQueue q) := by
  refine (step_of_run (s := s.withQueue (.regWrite 0 v :: q)) hi rfl
    (accessOf_command _ hv)).trans ?_
  rw [exec_commandInstr]
  exact (command_withQueue s q c).trans (congrArg (outcomeWithQueue q) hu)

/-- The five operand writes of a wrapper are five steps. -/
theorem run_operandWrites (hi : s.phase = .idle) (base len x y w : Word) (q : List HostOp)
    (k : Nat) :
    Sys2Proof.core.run (k + 5) (s.withQueue (.regWrite 2 base :: .regWrite 3 len :: .regWrite 4 x ::
        .regWrite 5 y :: .regWrite 6 w :: q)) =
      Sys2Proof.core.run k ((s.writeOperands base len x y w).withQueue q) := by
  rw [coreRun_succ_next (step_withQueue_regWrite hi _ _ (by decide)),
    coreRun_succ_next (step_withQueue_regWrite (by simpa using hi) _ _ (by decide)),
    coreRun_succ_next (step_withQueue_regWrite (by simpa using hi) _ _ (by decide)),
    coreRun_succ_next (step_withQueue_regWrite (by simpa using hi) _ _ (by decide)),
    coreRun_succ_next (step_withQueue_regWrite (by simpa using hi) _ _ (by decide))]
  rfl

/-- A LAYOUT command word and the read of WIDTH_USED are two steps. -/
theorem run_layout_read {al : Align} {u : State} (hi : s.phase = .idle) (q : List HostOp)
    (hu : command (.layout al false false) s = .next u) :
    Sys2Proof.core.run 2 (s.withQueue (.regWrite 0 (wrapperWord al) :: .regRead 7 :: q)) =
      .next ((u.regRead 7).withQueue q) := by
  have hlayout := step_withQueue_command (c := .layout al false false) hi (.regRead 7 :: q)
    (decodeCmd_wrapperWord al) hu
  have hread := step_withQueue_finished (q := q) (op := .regRead 7) (command_idle hu) rfl
  rw [coreRun_succ_next hlayout, coreRun_succ_next hread]
  rfl

/-- A wrapper answers what the seven steps of its expansion lead to. -/
theorem wrapper_eq_run (al : Align) (base len x y w : Word) (hwf : s.par.wf = true)
    (hi : s.phase = .idle) :
    wrapper al base len x y w s =
      Sys2Proof.core.run 7
        (s.withQueue (wrapperOps base len x y w (wrapperWord al) ++ s.host)) := by
  obtain ⟨u, hwrapper, hu, -, hhost⟩ := wrapper_result al base len x y w hwf hi
  have hqueue : (u.regRead 7).withQueue s.host = u.regRead 7 := by
    rw [← hhost]
    exact withQueue_self (u.regRead 7)
  have hlast := run_layout_read (by simpa using hi) s.host hu
  rw [hqueue] at hlast
  exact hwrapper.trans (hlast.symm.trans (run_operandWrites hi base len x y w _ 2).symm)

/-- Settles O39: for either alignment, five register writes, the command and the read. -/
theorem wrapperEqualsItsExpansion : Obligations.WrapperEqualsItsExpansion := by
  intro s addr len x y w hwf hi
  exact ⟨wrapper_eq_run .left addr len x y w hwf hi, wrapper_eq_run .center addr len x y w hwf hi⟩

end Sys2Proof.Machine

/-! ### Command words (R91 to R94) -/

namespace Sys2Proof

/-- The field `al` of an alignment (R93). -/
def alignField (al : Align) : BitVec 2 :=
  match al with
  | .left => 0
  | .right => 1
  | .center => 2

/-- The word of a command (R91, R92). -/
def commandWord (c : Machine.Command) : Word :=
  match c with
  | .layout al tb m => layoutWord (alignField al) tb m
  | .resolve => resolveWord

/-- One bit of a word as a field of its own. -/
theorem ofBool_getLsbD (v : Word) (i : Nat) : BitVec.ofBool (v.getLsbD i) = v.extractLsb' i 1 := by
  apply BitVec.eq_of_getLsbD_eq
  intro j hj
  obtain rfl : j = 0 := by omega
  simp

/-- A word is its five fields, from the top (R91). -/
theorem word_eq_fields (v : Word) :
    cmdZero v ++ cmdOp v ++ BitVec.ofBool (cmdM v) ++ BitVec.ofBool (cmdTb v) ++ cmdAl v = v := by
  simp only [cmdZero, cmdOp, cmdM, cmdTb, cmdAl, ofBool_getLsbD]
  rw [BitVec.extractLsb'_append_extractLsb'_eq_extractLsb' (by rfl),
    BitVec.extractLsb'_append_extractLsb'_eq_extractLsb' (by rfl),
    BitVec.extractLsb'_append_extractLsb'_eq_extractLsb' (by rfl),
    BitVec.extractLsb'_append_extractLsb'_eq_extractLsb' (by rfl)]
  exact BitVec.extractLsb'_eq_self

theorem encode_commandInstr (p : Params) (c : Machine.Command) :
    encode p (Machine.commandInstr c) = .cmd (commandWord c) := by
  rcases c with ⟨_ | _ | _, tb, m⟩ | _ <;> rfl

/-- The word of a command decodes to it, for every font alike. -/
theorem decodeCmd_commandWord (c : Machine.Command) :
    decodeCmd (commandWord c) = .ok (Machine.commandInstr c) := by
  rcases c with ⟨_ | _ | _, tb, m⟩ | _
  · cases tb <;> cases m <;> rfl
  · cases tb <;> cases m <;> rfl
  · cases tb <;> cases m <;> rfl
  · rfl

/-- A word that decodes is the word of its command. -/
theorem eq_commandWord_of_decodeCmd {v : Word} {i : Instr} (h : decodeCmd v = .ok i) :
    ∃ c, i = Machine.commandInstr c ∧ v = commandWord c := by
  have hv := word_eq_fields v
  unfold decodeCmd at h
  split_ifs at h with hzero hop hal hal hal hop hopt <;> cases h
  · rw [not_not.1 hzero, hop, hal] at hv
    exact ⟨.layout .left _ _, rfl, hv.symm⟩
  · rw [not_not.1 hzero, hop, hal] at hv
    exact ⟨.layout .right _ _, rfl, hv.symm⟩
  · rw [not_not.1 hzero, hop, hal] at hv
    exact ⟨.layout .center _ _, rfl, hv.symm⟩
  · obtain ⟨hm, htb, hal⟩ := hopt
    rw [not_not.1 hzero, hop, hal, hm, htb] at hv
    exact ⟨.resolve, rfl, hv.symm⟩

/-- The mask of the LAYOUT rows (R92). -/
abbrev layoutMask : Word := 0xFFFFFFF3#32

/-- The mask leaves the two options out. -/
theorem commandWord_and_mask (al : Align) (tb m : Bool) :
    commandWord (.layout al tb m) &&& layoutMask = commandWord (.layout al false false) := by
  rcases al <;> cases tb <;> cases m <;> rfl

/-- A word selects the row of a LAYOUT command by its masked value, and its options are the bits
that the mask leaves out (R92). -/
theorem eq_commandWord_of_mask {v : Word} (al : Align)
    (h : v &&& layoutMask = commandWord (.layout al false false)) :
    v = commandWord (.layout al (cmdTb v) (cmdM v)) := by
  have hzero : cmdZero (v &&& layoutMask) = cmdZero v := by
    rw [cmdZero, BitVec.extractLsb'_and]
    exact BitVec.and_allOnes
  have hop : cmdOp (v &&& layoutMask) = cmdOp v := by
    rw [cmdOp, BitVec.extractLsb'_and]
    exact BitVec.and_allOnes
  have hal : cmdAl (v &&& layoutMask) = cmdAl v := by
    rw [cmdAl, BitVec.extractLsb'_and]
    exact BitVec.and_allOnes
  have hfields := word_eq_fields v
  rw [← hzero, ← hop, ← hal, h] at hfields
  refine hfields.symm.trans ?_
  rcases al <;> rfl

theorem decodeCmd_of_mask {v : Word} (al : Align)
    (h : v &&& layoutMask = commandWord (.layout al false false)) :
    decodeCmd v = .ok (Machine.layoutInstr al (v.getLsbD 2) (v.getLsbD 3)) :=
  (congrArg decodeCmd (eq_commandWord_of_mask al h)).trans (decodeCmd_commandWord _)

/-- Settles O16: a row by its masked value; a word that decodes is the word of a row. -/
theorem commandWordsMatchTheTable : Obligations.CommandWordsMatchTheTable := by
  intro v
  refine ⟨decodeCmd_of_mask .left, decodeCmd_of_mask .right, decodeCmd_of_mask .center,
    fun h => ?_, fun hl hr hc hres => ?_⟩
  · rw [show v = 0x20#32 from BitVec.and_allOnes.symm.trans h]
    rfl
  · cases hd : decodeCmd v with
    | error e => exact ⟨e, rfl⟩
    | ok i =>
      obtain ⟨⟨al, tb, m⟩ | _, -, rfl⟩ := eq_commandWord_of_decodeCmd hd
      · cases al
        · exact absurd (commandWord_and_mask .left tb m) hl
        · exact absurd (commandWord_and_mask .right tb m) hr
        · exact absurd (commandWord_and_mask .center tb m) hc
      · exact absurd rfl hres

/-- Settles O17: the word of a command is what it is encoded as. -/
theorem commandEncodeAfterDecode : Obligations.CommandEncodeAfterDecode := by
  intro p v i h
  obtain ⟨c, rfl, rfl⟩ := eq_commandWord_of_decodeCmd h
  exact encode_commandInstr p c

/-- The command words have none of the faults of R94. -/
theorem commandWord_legal (c : Machine.Command) :
    ¬ ((commandWord c).toNat / 256 ≠ 0 ∨
      ((commandWord c).toNat / 16 % 16 ≠ 1 ∧ (commandWord c).toNat / 16 % 16 ≠ 2) ∨
      ((commandWord c).toNat / 16 % 16 = 1 ∧ (commandWord c).toNat % 4 = 3) ∨
      ((commandWord c).toNat / 16 % 16 = 2 ∧ (commandWord c).toNat % 16 ≠ 0)) := by
  rcases c with ⟨al, tb, m⟩ | _
  · rcases al <;> cases tb <;> cases m <;> decide
  · decide

/-- Settles O18: a word with one of the faults is no command's, so it does not decode. -/
theorem illegalWordOnlySetsIllegal : Obligations.IllegalWordOnlySetsIllegal := by
  intro s v rest hwf hi hq hbad
  obtain ⟨-, hillegal⟩ := Machine.stepRunsWrittenCommand s v rest hwf hi hq
  cases hd : decodeCmd v with
  | error e => exact hillegal e hd
  | ok i =>
    obtain ⟨c, -, rfl⟩ := eq_commandWord_of_decodeCmd hd
    exact absurd hbad (commandWord_legal c)

/-- Settles O15, by running the decoders and the parser. -/
theorem sampleEncodingsDecode : Obligations.SampleEncodingsDecode :=
  ⟨rfl, rfl, rfl, rfl, fun _ _ _ => rfl, by decide⟩

end Sys2Proof

/-! ### A glyph ROM written by the record format (R95 to R98) -/

namespace Sys2Proof.Font

/-- The record of a glyph source at an offset (R95). -/
def sourceRecord (order : Col16Order) (off : Nat) (g : GlyphSource) : Record where
  off := off
  key := g.key
  tall := g.tall
  bitmap := bitmapBytes order g

/-- The records of glyph sources put one after the other from `off` on. -/
def sourceRecords (order : Col16Order) : Nat → List GlyphSource → List Record
  | _, [] => []
  | off, g :: gs =>
    sourceRecord order off g :: sourceRecords order (off + (encodeRecord order g).length) gs

section SourceRecord

variable {order : Col16Order} {off : Nat} {g : GlyphSource}

theorem recordBytes_sourceRecord :
    recordBytes (sourceRecord order off g) = encodeRecord order g := by
  simp [recordBytes, sourceRecord, encodeRecord, shapeByte]

theorem recordLength_sourceRecord :
    recordLength (sourceRecord order off g) = (encodeRecord order g).length := by
  rw [← length_recordBytes, recordBytes_sourceRecord]

theorem length_bitmapBytes :
    (bitmapBytes order g).length =
      if g.tall then 2 * g.columns.length else g.columns.length := by
  have htwo (c : Half) : (columnBytes order c).length = 2 := by cases order <;> rfl
  rw [bitmapBytes]
  split
  · simp [List.length_flatMap, htwo, Nat.mul_comm]
  · rw [List.length_map]

theorem fits_sourceRecord (h : Ref.sourceOk g = true) : (sourceRecord order off g).Fits := by
  simp only [Ref.sourceOk, Bool.and_eq_true, decide_eq_true_eq] at h
  obtain ⟨⟨hpos, hle⟩, hcols⟩ := h
  refine ⟨hpos, hle, ?_⟩
  simp only [sourceRecord, length_bitmapBytes]
  cases ht : g.tall with
  | true => simpa [ht] using hcols
  | false =>
    simp only [ht, Bool.false_eq_true, if_false, Bool.and_eq_true, decide_eq_true_eq] at hcols ⊢
    exact hcols.1

/-- The two bytes of a 16-row column give it back, in either order (R68, R138). -/
theorem column16_bytes (c : Half) :
    column16 .lowFirst (c.extractLsb' 0 8) (c.extractLsb' 8 8) = c ∧
      column16 .highFirst (c.extractLsb' 8 8) (c.extractLsb' 0 8) = c := by
  have h : (c.extractLsb' 0 8).setWidth 16 ||| ((c.extractLsb' 8 8).setWidth 16 <<< 8) = c := by
    apply BitVec.eq_of_getLsbD_eq
    intro i hi
    by_cases h8 : i < 8
    · simp [h8, hi]
    · simp [h8, hi, show i - 8 < 8 by omega, show 8 + (i - 8) = i by omega]
  exact ⟨h, h⟩

/-- The columns of a 16-row bitmap are those it was made of. -/
theorem bitmapColumns_flatMap_columnBytes (cs : List Half) :
    bitmapColumns order true (cs.flatMap (columnBytes order)) = cs := by
  induction cs with
  | nil => rfl
  | cons c cs ih =>
    obtain ⟨hlow, hhigh⟩ := column16_bytes c
    cases order with
    | lowFirst => exact congrArg₂ List.cons hlow ih
    | highFirst => exact congrArg₂ List.cons hhigh ih

/-- A column without rows below the eighth is its low byte. -/
theorem setWidth_lowByte {c : Half} (h : c.toNat < 256) : (c.extractLsb' 0 8).setWidth 16 = c := by
  apply BitVec.eq_of_toNat_eq
  simp [BitVec.extractLsb'_toNat]
  omega

/-- The record of a glyph source is what its author stated. -/
theorem sourceOf_sourceRecord (h : Ref.sourceOk g = true) :
    Ref.sourceOf order (sourceRecord order off g) = g := by
  have hcols : recordColumns order (sourceRecord order off g) = g.columns := by
    rw [Ref.sourceOk, Bool.and_eq_true] at h
    obtain ⟨-, hcols⟩ := h
    simp only [recordColumns, sourceRecord, bitmapBytes]
    cases ht : g.tall with
    | true => exact bitmapColumns_flatMap_columnBytes g.columns
    | false =>
      simp only [ht, Bool.false_eq_true, if_false, Bool.and_eq_true, List.all_eq_true,
        decide_eq_true_eq] at hcols ⊢
      rw [bitmapColumns, List.map_map]
      exact (List.map_congr_left fun c hc => setWidth_lowByte (hcols.2 c hc)).trans (List.map_id _)
  rw [Ref.sourceOf, hcols]
  rfl

end SourceRecord

variable {order : Col16Order} {off : Nat} {gs : List GlyphSource}

/-- The ROM that `encodeFont` writes holds the records of its sources (R98, R141). -/
theorem image_sourceRecords (h : ∀ g ∈ gs, Ref.sourceOk g = true) :
    Image off (encodeFont order gs) (sourceRecords order off gs) := by
  induction gs generalizing off with
  | nil => exact .sentinel off []
  | cons g gs ih =>
    have hrest := ih (off := off + (encodeRecord order g).length)
      fun g' hg' => h g' (List.mem_cons_of_mem g hg')
    rw [← recordLength_sourceRecord (off := off)] at hrest
    have himage := Image.record (fits_sourceRecord (h g List.mem_cons_self)) hrest
    rw [recordBytes_sourceRecord, recordLength_sourceRecord] at himage
    rw [encodeFont, List.flatMap_cons, List.append_assoc]
    exact himage

theorem map_sourceOf_sourceRecords (h : ∀ g ∈ gs, Ref.sourceOk g = true) :
    (sourceRecords order off gs).map (Ref.sourceOf order) = gs := by
  induction gs generalizing off with
  | nil => rfl
  | cons g gs ih =>
    rw [sourceRecords, List.map_cons, sourceOf_sourceRecord (h g List.mem_cons_self),
      ih fun g' hg' => h g' (List.mem_cons_of_mem g hg')]

/-- Each record stands behind the ones before it. -/
theorem sourceRecords_off {k : Nat} (hk : k < gs.length) :
    ((sourceRecords order off gs).map (·.off))[k]? =
      some (off + ((gs.take k).flatMap (encodeRecord order)).length) := by
  induction gs generalizing off k with
  | nil => cases hk
  | cons g gs ih =>
    cases k with
    | zero => rfl
    | succ k =>
      rw [sourceRecords, List.map_cons, List.getElem?_cons_succ, ih (Nat.lt_of_succ_lt_succ hk),
        List.take_succ_cons, List.flatMap_cons, List.length_append, Nat.add_assoc]

/-- Settles O20: the image of a font file is the list of its sources' records. -/
theorem fontImageReadsBack : Obligations.FontImageReadsBack := by
  intro p gs hgs hfont
  have himage : Image 0 p.font (sourceRecords p.col16 0 gs) := hfont ▸ image_sourceRecords hgs
  exact ⟨_, records_eq_some_iff.2 himage, map_sourceOf_sourceRecords hgs,
    fun k hk => (sourceRecords_off hk).trans (by rw [Nat.zero_add])⟩

end Sys2Proof.Font

/-! ### Every accessor of a record's offset (R130 to R138) -/

namespace Sys2Proof.Font

/-- Settles O21: a record of a well-formed font stands in the glyph ROM at its offset, where each
accessor reads its field. -/
theorem accessorsReadRecordFields : Obligations.AccessorsReadRecordFields := by
  intro p rs r hfont hrs hr
  have h : Holds p r := (wellFormed_of_records hfont hrs).holds hr
  refine ⟨h.keyLen, ?keyByte, h.blf, h.h16, h.bitmapLen, h.bitmapPtr, h.cols, h.recLen, ?column⟩
  case keyByte =>
    intro i hi
    rw [List.getD_eq_getElem _ _ hi]
    exact h.keyByte (List.getElem?_eq_getElem hi)
  case column =>
    intro c hc
    rw [List.getD_eq_getElem _ _ hc]
    exact h.column (List.getElem?_eq_getElem hc)

end Sys2Proof.Font

/-! ### The resolver's statements (R151, R152, R157, R161) -/

namespace Sys2Proof.Font

variable {p : Params} {rs : List Record} {r : Record}

/-- Settles O23: the scan of the ROM from the bucket's index entry is a search of the whole record
list. -/
theorem resolverFindsFirstPrefixInTableOrder :
    Obligations.ResolverFindsFirstPrefixInTableOrder :=
  fun _ _ q hfont hrs => (wellFormed_of_records hfont hrs).resolve q

/-- A key fits its length byte, so its match reads at most 255 bytes of the input (R161). -/
theorem Record.Fits.isPrefixOf_take (h : r.Fits) (q : List Byte) :
    r.key.isPrefixOf (q.take 255) = r.key.isPrefixOf q := by
  rw [Bool.eq_iff_iff, List.isPrefixOf_iff_prefix, List.isPrefixOf_iff_prefix,
    List.prefix_take_iff, and_iff_left h.key_le]

/-- What is found depends on the first 255 bytes of the input alone. -/
theorem WellFormed.find_take (h : WellFormed p rs) (q : List Byte) :
    Ref.find rs (q.take 255) = Ref.find rs q :=
  List.find?_congr fun _ hr => (h.holds hr).fits.isPrefixOf_take q

/-- Settles O24: no key is longer than 255 bytes. -/
theorem resolverReadsAtMost255Bytes : Obligations.ResolverReadsAtMost255Bytes := by
  intro p q hp
  obtain ⟨rs, -, hwf⟩ := wellFormed_of_wf hp
  rw [hwf.resolve, hwf.resolve, hwf.find_take]

/-- The bucket of a byte is its quarter (R100). -/
theorem toNat_bucket (b : Byte) : (bucket b).toNat = b.toNat / 4 := by
  rw [bucket, BitVec.extractLsb'_toNat, Nat.shiftRight_eq_div_pow]
  exact Nat.mod_eq_of_lt (by omega)

/-- An empty index entry ends the search before the glyph ROM is read (R152). -/
theorem resolve_of_indexEntry_empty {b : Byte} (h : indexEntry p b = 0xFFFF#16) (q : List Byte) :
    resolve p (b :: q) = .ok none :=
  if_pos h

/-- Settles O22: the two ends of the search before any record is looked at. -/
theorem emptyInputAndBucketAreNotFound : Obligations.EmptyInputAndBucketAreNotFound := by
  intro p _
  refine ⟨rfl, fun b q hempty => resolve_of_indexEntry_empty ?_ q⟩
  have hbucket : (bucket b).toFin = ⟨b.toNat / 4, by omega⟩ := Fin.ext (toNat_bucket b)
  rw [indexEntry, hbucket, hempty]

/-- RES_INFO as a number: the height class in bit 15, the bitmap's length in bits 14:8, the key's
in bits 7:0 (R29). -/
theorem Record.Fits.infoWord (h : r.Fits) :
    BitVec.ofBool r.tall ++ BitVec.ofNat 7 r.bitmap.length ++ BitVec.ofNat 8 r.key.length =
      BitVec.ofNat 16 (r.tall.toNat * 32768 + r.bitmap.length * 256 + r.key.length) := by
  have hkey := h.key_le
  have hbitmap := h.bitmap_le
  have htall := Bool.toNat_lt r.tall
  apply BitVec.eq_of_toNat_eq
  rw [BitVec.toNat_append, BitVec.toNat_append, h.toNat_keyLength, h.toNat_bitmapLength,
    BitVec.toNat_ofBool, ← Nat.shiftLeft_add_eq_or_of_lt (by omega),
    ← Nat.shiftLeft_add_eq_or_of_lt (by omega), Nat.shiftLeft_eq, Nat.shiftLeft_eq,
    BitVec.toNat_ofNat]
  omega

end Sys2Proof.Font

/-! ### RESOLVE, by its phases and as a whole (R150, R159, R221) -/

namespace Sys2Proof.Machine

open Font (WellFormed)

variable {s : State} {rs : List Font.Record}

/-- What RESOLVE_RUN hands to DONE under `WF_FONT`: offset and RES_INFO of the first record in table
order with whose key the text begins (R159). -/
theorem resolveText_eq_info (hwf : WellFormed s.par rs) :
    resolveText s = .ok ((Ref.find rs (commandText s)).map fun r => (r.off, BitVec.ofNat 16
      (r.tall.toNat * 32768 + r.bitmap.length * 256 + r.key.length))) := by
  rw [resolveText_eq hwf]
  refine congrArg Except.ok (Option.map_congr fun r hr => ?_)
  rw [(hwf.holds (List.mem_of_find?_eq_some hr)).fits.infoWord]

/-- A step in RESOLVE_RUN hands the resolver's result to DONE (R221). -/
theorem step_resolveRun {res : Option (Nat × Half)} (hp : s.phase = .resolveRun)
    (hw : textWraps s = false) (hr : resolveText s = .ok res) :
    step s = .next (s.endResolve res) := by
  rw [step_eq_tick (by simp [hp]), tick_outside (by rw [hp]; rfl)]
  simp [micro, hp, resolveRun, hw, hr]

/-- A step in DONE writes the results and ends the command (R43, R221). -/
theorem step_done {c : Completion} (hp : s.phase = .done c) : step s = .next (s.finish c) := by
  rw [step_eq_tick (by simp [hp]), tick_outside (by rw [hp]; rfl), micro, hp]

/-- Settles O14: RESOLVE_RUN by what the resolver finds for the text, DONE by what it carries. -/
theorem resolvePhaseSteps : Obligations.ResolvePhaseSteps := by
  intro s rs hp hrs
  refine ⟨fun hphase hw => ?_, fun _ _ => step_done, step_done⟩
  have hwf := Font.wellFormed_of_records (Bool.and_eq_true_iff.1 hp).1 hrs
  have hstep := step_resolveRun hphase (textWraps_eq_false.2 hw) (resolveText_eq_info hwf)
  simp only [State.endResolve, Option.map_map] at hstep
  exact ⟨_, hstep⟩

/-- An idle engine stays idle over RESOLVE: only its results and `o` are written (R159). -/
theorem finishResolve_endResolve (hi : s.phase = .idle) (res : Option (Nat × Half))
    (hit : Option (Half × Half)) :
    (s.endResolve res).finishResolve hit =
      { s with
        found := hit.isSome, resOff := (hit.map (·.1)).getD 0xFFFF,
        resInfo := (hit.map (·.2)).getD 0, o := (s.endResolve res).o } := by
  rw [State.finishResolve, ← hi]
  rfl

/-- Settles O35: Illegal for a text that wraps, else the first record found, by cases. -/
theorem resolveResult : Obligations.ResolveResult := by
  intro s rs hp hrs hi
  refine ⟨fun hw => ?legal, fun hw => ?illegal⟩
  case legal =>
    have hwf := Font.wellFormed_of_records (Bool.and_eq_true_iff.1 hp).1 hrs
    have hrun := execResolve_of_resolveText hi (textWraps_eq_false.2 hw) (resolveText_eq_info hwf)
    rw [finishResolve_endResolve hi] at hrun
    generalize Ref.find rs (commandText s) = found at hrun ⊢
    cases found with
    | none => exact ⟨_, hrun⟩
    | some r => exact ⟨_, hrun⟩
  case illegal =>
    have hrun := command_illegal .resolve hi (textWraps_eq_true.2 hw)
    rwa [State.raiseIllegal, ← hi] at hrun

end Sys2Proof.Machine

/-! ### The widths depend neither on what is drawn nor on where (R192, R225) -/

namespace Sys2Proof.Machine

open Host (Outcome)

/-- A command with its option MEASURE_ONLY set. -/
def Command.undrawn : Command → Command
  | .layout al tb _ => .layout al tb true
  | .resolve => .resolve

/-- A phase with MEASURE_ONLY set wherever it carries that option (R215, log 6). -/
def Phase.undrawn : Phase → Phase
  | .idle => .idle
  | .check c => .check c.undrawn
  | .pass1 mode _ => .pass1 mode true
  | .shift mode _ => .shift mode true
  | .pass2 aligned => .pass2 aligned
  | .resolveRun => .resolveRun
  | .done r => .done r

/-- A state without all that says what is drawn and where: X, Y, the sink's width and the pass's
origin are 0, the pass and the command only measure, and no event has been emitted. -/
def State.undrawn (s : State) : State :=
  { s with x := 0, y := 0, surfW := 0, xEff := 0, measEff := true, pixels := [],
           phase := s.phase.undrawn }

/-- An outcome whose next state is taken without the drawing. -/
def outcomeUndrawn : Outcome State Fault Refusal → Outcome State Fault Refusal
  | .next s => .next s.undrawn
  | .fault f => .fault f
  | .refused r => .refused r

/-- What differs from a next state in the drawing only is a next state. -/
theorem next_of_outcomeUndrawn_eq {t : State} {out : Outcome State Fault Refusal}
    (h : outcomeUndrawn out = outcomeUndrawn (.next t)) :
    ∃ t', out = .next t' ∧ t'.undrawn = t.undrawn := by
  cases out with
  | next t' => exact ⟨t', rfl, Outcome.next.inj h⟩
  | fault f => cases h
  | refused r => cases h

section Undrawn

variable (s : State)

@[simp] theorem undrawn_phase : s.undrawn.phase = s.phase.undrawn := rfl
@[simp] theorem undrawn_n : s.undrawn.n = s.n := rfl
@[simp] theorem undrawn_mwEff : s.undrawn.mwEff = s.mwEff := rfl
@[simp] theorem undrawn_par : s.undrawn.par = s.par := rfl
@[simp] theorem undrawn_tab : s.undrawn.tab = s.tab := rfl
@[simp] theorem textWraps_undrawn : textWraps s.undrawn = textWraps s := rfl
@[simp] theorem resolveText_undrawn : resolveText s.undrawn = resolveText s := rfl
@[simp] theorem inCell_undrawn (d : GlyphData) : inCell s.undrawn d = inCell s d := rfl
@[simp] theorem gapOf_undrawn (d : GlyphData) : gapOf s.undrawn d = gapOf s d := rfl

@[simp] theorem inPass_undrawn (ph : Phase) : ph.undrawn.inPass = ph.inPass := by
  cases ph <;> rfl

@[simp] theorem phase_undrawn_eq_idle {ph : Phase} : ph.undrawn = .idle ↔ ph = .idle := by
  cases ph <;> simp [Phase.undrawn]

@[simp] theorem phase_undrawn_undrawn (ph : Phase) : ph.undrawn.undrawn = ph.undrawn := by
  rcases ph with _ | (_ | _) | _ | _ | _ | _ | _ <;> rfl

@[simp] theorem undrawn_undrawn : s.undrawn.undrawn = s.undrawn := by
  simp [State.undrawn]

@[simp] theorem outcomeUndrawn_undrawn (out : Outcome State Fault Refusal) :
    outcomeUndrawn (outcomeUndrawn out) = outcomeUndrawn out := by
  cases out <;> simp [outcomeUndrawn]

/-! A token's effect commutes with leaving out the drawing. -/

theorem endPass_undrawn : s.undrawn.endPass = s.endPass.undrawn := by
  rw [State.endPass, State.endPass, undrawn_phase]
  cases s.phase <;> rfl

theorem spaceEffect_undrawn : spaceEffect s.undrawn = (spaceEffect s).undrawn := by
  rw [spaceEffect, spaceEffect, undrawn_n, undrawn_mwEff]
  split
  · exact endPass_undrawn s
  · rfl

theorem glyphEffect_undrawn (o : Offset) (d : GlyphData) :
    glyphEffect s.undrawn o d = (glyphEffect s o d).undrawn := by
  rw [glyphEffect, glyphEffect, undrawn_n, undrawn_mwEff, inCell_undrawn, gapOf_undrawn]
  split
  · exact endPass_undrawn (glyphScratch s o d)
  · rfl

theorem execToken_undrawn (i : Instr) :
    execToken i s.undrawn = outcomeUndrawn (execToken i s) := by
  cases i with
  | sp =>
    simp only [execToken, execSp, undrawn_phase, inPass_undrawn, spaceEffect_undrawn]
    split <;> rfl
  | kr =>
    simp only [execToken, execKr, undrawn_phase, inPass_undrawn]
    split <;> rfl
  | skip b =>
    simp only [execToken, execSkip, undrawn_phase, inPass_undrawn]
    split <;> rfl
  | glyph o =>
    simp only [execToken, execGlyph, undrawn_phase, inPass_undrawn, undrawn_par, undrawn_tab]
    split
    · cases glyphData s.par s.tab o.toNat with
      | ok d => exact congrArg Outcome.next (glyphEffect_undrawn s o d)
      | error d => rfl
    · rfl
  | _ => rfl

/-! The micro-sequencer reads X for the origin of a pass, so it agrees only after the drawing is
left out once more. -/

theorem checkCommand_undrawn (c : Command) :
    (s.undrawn.checkCommand c.undrawn).undrawn = (s.checkCommand c).undrawn := by
  unfold State.checkCommand
  rw [textWraps_undrawn]
  split
  · rfl
  · rcases c with ⟨_ | _ | _, tb, m⟩ | _ <;> rfl

theorem resolveRun_undrawn : resolveRun s.undrawn = outcomeUndrawn (resolveRun s) := by
  rw [resolveRun, resolveRun, textWraps_undrawn, resolveText_undrawn]
  split
  · rfl
  · cases resolveText s <;> rfl

theorem micro_undrawn : outcomeUndrawn (micro s.undrawn) = outcomeUndrawn (micro s) := by
  have hend : s.undrawn.endPass.undrawn = s.endPass.undrawn := by
    rw [endPass_undrawn, undrawn_undrawn]
  rw [micro, micro, undrawn_phase]
  cases s.phase with
  | idle => exact congrArg Outcome.next (undrawn_undrawn s)
  | check c => exact congrArg Outcome.next (checkCommand_undrawn s c)
  | pass1 mode m => exact congrArg Outcome.next hend
  | shift mode m => rfl
  | pass2 aligned => exact congrArg Outcome.next hend
  | resolveRun =>
    exact (congrArg outcomeUndrawn (resolveRun_undrawn s)).trans (outcomeUndrawn_undrawn _)
  | done r => cases r <;> rfl

theorem fetch_undrawn : fetch s.undrawn = fetch s := by
  rw [fetch, fetch, undrawn_phase, inPass_undrawn]
  rfl

theorem tick_undrawn : outcomeUndrawn (tick s.undrawn) = outcomeUndrawn (tick s) := by
  rw [tick, tick, fetch_undrawn]
  rcases fetch s with (_ | i) | f | r
  · exact micro_undrawn s
  · exact (congrArg outcomeUndrawn (execToken_undrawn s i)).trans (outcomeUndrawn_undrawn _)
  · rfl
  · rfl

theorem runCommand_undrawn (k : Nat) :
    outcomeUndrawn (runCommand k s.undrawn) = outcomeUndrawn (runCommand k s) := by
  induction k generalizing s with
  | zero =>
    simp only [runCommand, undrawn_phase, phase_undrawn_eq_idle]
    split
    · exact congrArg Outcome.next (undrawn_undrawn s)
    · rfl
  | succ k ih =>
    simp only [runCommand, undrawn_phase, phase_undrawn_eq_idle]
    split
    · exact congrArg Outcome.next (undrawn_undrawn s)
    · have htick := tick_undrawn s
      generalize tick s.undrawn = out', tick s = out at htick ⊢
      cases out with
      | next t =>
        obtain ⟨t', rfl, ht⟩ := next_of_outcomeUndrawn_eq htick
        calc outcomeUndrawn (runCommand k t')
            = outcomeUndrawn (runCommand k t'.undrawn) := (ih t').symm
          _ = outcomeUndrawn (runCommand k t.undrawn) := by rw [ht]
          _ = outcomeUndrawn (runCommand k t) := ih t
      | fault f =>
        cases out' with
        | fault f' => exact htick
        | _ => cases htick
      | refused r =>
        cases out' with
        | refused r' => exact htick
        | _ => cases htick

/-- A command with MEASURE_ONLY answers as without it, but for the drawing. -/
theorem command_undrawn (c : Command) :
    outcomeUndrawn (command c.undrawn s.undrawn) = outcomeUndrawn (command c s) := by
  rw [command, command, undrawn_phase]
  simp only [phase_undrawn_eq_idle]
  split
  · exact runCommand_undrawn (s.startCommand c) (commandFuel s)
  · rfl

end Undrawn

/-- Two commands that differ in MEASURE_ONLY, X, Y, the sink's width and the events so far answer
alike but for the drawing. -/
theorem command_undrawn_congr {c c' : Command} {s s' t : State} (hc : c'.undrawn = c.undrawn)
    (hs : s'.undrawn = s.undrawn) (h : command c s = .next t) :
    ∃ t', command c' s' = .next t' ∧ t'.undrawn = t.undrawn := by
  apply next_of_outcomeUndrawn_eq
  rw [← command_undrawn, hc, hs, command_undrawn, h]

/-- Settles O48: both results are left when the drawing is taken out of the command. -/
theorem widthIndependentOfDrawing : Obligations.WidthIndependentOfDrawing := by
  intro s t al tb m m' x y sw _ h
  rw [exec_layoutInstr] at h
  obtain ⟨t', ht', hsame⟩ :=
    command_undrawn_congr (c := .layout al tb m) (c' := .layout al tb m') (s := s)
      (s' := { s with x := x, y := y, surfW := sw }) rfl rfl h
  exact ⟨t', by rw [exec_layoutInstr, ht'],
    (congrArg State.widthUsed hsame : t'.undrawn.widthUsed = t.undrawn.widthUsed),
    (congrArg State.natural hsame : t'.undrawn.natural = t.undrawn.natural)⟩

end Sys2Proof.Machine

/-! ### The kerning test (R182, R190) -/

namespace Sys2Proof.Machine

/-- A column spread to the row below it, in `m` bits (R182). -/
def spreadTo (m : Nat) (v : Half) : BitVec m := v.setWidth m ||| v.setWidth m <<< 1

/-- A set row of a column sets its own bit and the next one. -/
theorem getLsbD_spreadTo (m : Nat) (v : Half) (i : Nat) :
    (spreadTo m v).getLsbD i = true ↔
      i < m ∧ ∃ r, v.getLsbD r = true ∧ (i = r ∨ i = r + 1) := by
  simp only [spreadTo, BitVec.getLsbD_or, BitVec.getLsbD_shiftLeft, BitVec.getLsbD_setWidth,
    Bool.or_eq_true, Bool.and_eq_true, decide_eq_true_eq, Bool.not_eq_true',
    decide_eq_false_iff_not]
  constructor
  · rintro (⟨hi, hv⟩ | ⟨⟨hi, h1⟩, -, hv⟩)
    · exact ⟨hi, i, hv, .inl rfl⟩
    · exact ⟨hi, i - 1, hv, .inr (by omega)⟩
  · rintro ⟨hi, r, hv, rfl | rfl⟩
    · exact .inl ⟨hi, hv⟩
    · exact .inr ⟨⟨hi, by omega⟩, by omega, hv⟩

/-- Two spread columns share a bit exactly when a row of one is, or is next to, a row of the other:
the shared bit is the larger row number's, so sixteen bits are enough (R190). -/
theorem spreadTo_and_ne_zero {m : Nat} (hm : 16 ≤ m) (b t : Half) :
    spreadTo m b &&& spreadTo m t ≠ 0 ↔
      ∃ rb rt : Nat, rb < 16 ∧ rt < 16 ∧ b.getLsbD rb = true ∧ t.getLsbD rt = true ∧
        rb ≤ rt + 1 ∧ rt ≤ rb + 1 := by
  have hbit : spreadTo m b &&& spreadTo m t ≠ 0 ↔
      ∃ i, (spreadTo m b).getLsbD i = true ∧ (spreadTo m t).getLsbD i = true :=
    (not_congr BitVec.zero_iff_eq_false).trans (by simp)
  simp only [hbit, getLsbD_spreadTo]
  constructor
  · rintro ⟨i, ⟨-, rb, hb, hib⟩, -, rt, ht, hit⟩
    exact ⟨rb, rt, BitVec.lt_of_getLsbD hb, BitVec.lt_of_getLsbD ht, hb, ht, by omega, by omega⟩
  · rintro ⟨rb, rt, hrb, hrt, hb, ht, hbt, htb⟩
    exact ⟨max rb rt, ⟨by omega, rb, hb, by omega⟩, by omega, rt, ht, by omega⟩

/-- The engine's test is the shared bit in 17 bits. -/
theorem columnsTouch_iff (b t : Half) :
    columnsTouch b t = true ↔ spreadTo 17 b &&& spreadTo 17 t ≠ 0 :=
  bne_iff_ne

/-- Settles O25: in 17 bits and in 16 the shared bit says that two rows are adjacent. -/
theorem kerningTestIsRowAdjacency : Obligations.KerningTestIsRowAdjacency := by
  intro b t
  have h16 := spreadTo_and_ne_zero (m := 16) (Nat.le_refl 16) b t
  have h17 := (columnsTouch_iff b t).trans (spreadTo_and_ne_zero (by decide) b t)
  simp only [spreadTo, BitVec.setWidth_eq] at h16
  exact ⟨h17, h17.trans h16.symm⟩

/-- The reference asks the same of the rows. -/
theorem columnsTouch_eq_touches (b t : Half) : columnsTouch b t = Ref.touches b t := by
  rw [Bool.eq_iff_iff, (kerningTestIsRowAdjacency b t).1]
  simp only [Ref.touches, List.any_eq_true, List.mem_range, Bool.and_eq_true, decide_eq_true_eq,
    and_assoc, exists_and_left]

theorem glyphGap_eq_hasGap (n : Word) (t b : Half) (tab dg pd : Bool) :
    glyphGap n t b tab dg pd = Ref.hasGap (n == 0) t b tab dg pd := by
  rw [glyphGap, Ref.hasGap, columnsTouch_eq_touches]
  by_cases hn : n = 0
  · rw [if_pos hn, beq_iff_eq.2 hn]
    rfl
  · rw [if_neg hn, beq_eq_false_iff_ne.2 hn]
    rfl

end Sys2Proof.Machine

/-! ### The pen's advance (R184, R186, R191) -/

namespace Sys2Proof.Machine

/-- Settles O26, by the arithmetic of the cell's two paddings. -/
theorem glyphAdvanceEqualsRequiredWidth : Obligations.GlyphAdvanceEqualsRequiredWidth := by
  intro n w gap
  exact ⟨(penAfter_eq n false w gap).trans (congrArg (n + ·) (BitVec.add_comm _ _)),
    (penAfter_eq n true w gap).trans (congrArg (n + ·) (BitVec.add_comm _ _)),
    fun cell => penAfter_eq n cell w gap⟩

end Sys2Proof.Machine

/-! ### The steps of a pass and of the phases around it (R171 to R173, R214 to R216, R221) -/

namespace Sys2Proof.Machine

open Host (Outcome)

variable {s : State}

theorem ne_idle_of_inPass (h : s.phase.inPass = true) : s.phase ≠ .idle := by
  intro hi
  simp [hi, Phase.inPass] at h

/-- The end of a pass changes the phase alone (R193, R250). -/
theorem endPass_eq (s : State) : s.endPass = { s with phase := afterPass s.phase } := by
  cases s
  dsimp only [State.endPass]
  split <;> rfl

/-- The token at the cursor of a pass is fetched as it decodes (R172, R173). -/
theorem fetch_of_remainingText_cons {c : Byte} {cs : List Byte} {i : Instr}
    (hp : s.phase.inPass = true) (hw : textWraps s = false) (hr : remainingText s = c :: cs)
    (hd : decodeToken s.par c cs = .ok i) : fetch s = .next (some i) := by
  simp [fetch, hp, hw, hr, hd]

/-- No token is left at the end of the text (R172). -/
theorem fetch_of_remainingText_nil (hp : s.phase.inPass = true) (hw : textWraps s = false)
    (hr : remainingText s = []) : fetch s = .next none := by
  simp [fetch, hp, hw, hr]

/-- Settles O11: inside a pass a step is a tick, which executes the token it fetches. -/
theorem stepRunsDecodedToken : Obligations.StepRunsDecodedToken := by
  intro s c cs i _ hp hw hr hd
  have hfetch := fetch_of_remainingText_cons hp (textWraps_eq_false.2 hw) hr hd
  rw [step_eq_tick (ne_idle_of_inPass hp), tick, hfetch]
  exact execToken_eq_exec s hd

/-- At the end of the text the micro-sequencer ends the pass (R172, R221). -/
theorem micro_inPass (hp : s.phase.inPass = true) : micro s = .next s.endPass := by
  rw [micro]
  cases hph : s.phase <;> simp_all [Phase.inPass]

/-- Between passes a step is the micro-sequencer's own (R221). -/
theorem step_eq_micro (hi : s.phase ≠ .idle) (hp : s.phase.inPass = false) : step s = micro s :=
  (step_eq_tick hi).trans (tick_outside hp)

theorem step_shift {mode : AlignMode} {m : Bool} (h : s.phase = .shift mode m) :
    step s = .next (s.startPass2 mode m) := by
  rw [step_eq_micro (by simp [h]) (by rw [h]; rfl), micro, h]

theorem step_check {c : Command} (h : s.phase = .check c) : step s = .next (s.checkCommand c) := by
  rw [step_eq_micro (by simp [h]) (by rw [h]; rfl), micro, h]

/-- Settles O12: the end of a pass, SHIFT and DONE are each one step of the micro-sequencer. -/
theorem microSequencerSteps : Obligations.MicroSequencerSteps := by
  intro s _
  refine ⟨fun hp hw hr => ?endOfText, fun mode m h => ?shift, fun _ h => step_done h⟩
  case endOfText =>
    have hfetch := fetch_of_remainingText_nil hp (textWraps_eq_false.2 hw) hr
    rw [step_eq_tick (ne_idle_of_inPass hp), tick, hfetch]
    exact (micro_inPass hp).trans (congrArg Outcome.next (endPass_eq s))
  case shift =>
    rw [step_shift h]
    cases mode <;> rfl

/-- Settles O13: CHECK tests the text, then starts what its command asks for. -/
theorem checkPhaseSteps : Obligations.CheckPhaseSteps := by
  intro s _
  refine ⟨fun c h hw => ?illegal, fun hw => ⟨fun h => ?resolve, fun al tb m h => ?layout⟩⟩
  case illegal =>
    rw [step_check h]
    simp only [State.checkCommand, textWraps_eq_true.2 hw, if_true]
    rfl
  case resolve =>
    rw [step_check h]
    simp only [State.checkCommand, textWraps_eq_false.2 hw]
    rfl
  case layout =>
    rw [step_check h]
    simp only [State.checkCommand, textWraps_eq_false.2 hw]
    cases al <;> rfl

/-! ### The tokens SP, KR and SKIP inside a pass (R174, R175, R188) -/

/-- R174's test as it is written, in signed numbers. -/
theorem spaceTruncates_iff {n mw : Word} :
    spaceTruncates n mw = true ↔ 0 < mw.toInt ∧ mw.toInt ≤ (n + 3#32).toInt :=
  Bool.and_eq_true_iff.trans (and_congr decide_eq_true_iff decide_eq_true_iff)

/-- R183's test as it is written, in signed numbers. -/
theorem glyphTruncates_iff {n req mw : Word} :
    glyphTruncates n req mw = true ↔ 0 < mw.toInt ∧ mw.toInt < (n + req).toInt :=
  Bool.and_eq_true_iff.trans (and_congr decide_eq_true_iff decide_eq_true_iff)

/-- Settles O28, by the truncation test. -/
theorem spaceResult : Obligations.SpaceResult := by
  intro s _ hp
  have hexec : exec .sp s = .next (spaceEffect s) := if_pos hp
  rw [hexec, spaceEffect, ← spaceTruncates_iff]
  refine ⟨fun hstop => ⟨s.cur, ?stop⟩, fun hgo => ?advance⟩
  case stop => rw [if_pos hstop, endPass_eq]
  case advance =>
    rw [if_neg hgo]
    rfl

/-- Settles O29: KR has no case but its effect. -/
theorem kernResetResult : Obligations.KernResetResult :=
  fun _ _ hp => if_pos hp

/-- Settles O30: SKIP has no case but its effect. -/
theorem skipResult : Obligations.SkipResult :=
  fun _ _ _ hp => if_pos hp

end Sys2Proof.Machine

/-! ### GLYPH of a record, against the record format (R177 to R187) -/

namespace Sys2Proof.Machine

/-- The reference's events of a glyph, its leftmost column first: a column off the surface has none
(R78, R185). -/
theorem wordEvents_cons (surfW y xa : Word) (col : Half) (cols : List Half) :
    Ref.wordEvents surfW y xa (col :: cols) =
      (if onSurface surfW xa then columnPixels xa y col else []) ++
        Ref.wordEvents surfW y (xa + 1) cols := by
  have hnext (j : Nat) : xa + BitVec.ofNat 32 (j + 1) = xa + 1 + BitVec.ofNat 32 j := by
    rw [BitVec.add_assoc, BitVec.ofNat_add, BitVec.add_comm (BitVec.ofNat 32 j)]
    rfl
  rw [Ref.wordEvents, Ref.wordEvents, List.length_cons,
    List.range_succ_eq_map (n := cols.length), List.flatMap_cons, List.flatMap_map]
  congr 1
  · simp [onSurface, columnPixels]
  · simp only [Nat.succ_eq_add_one, hnext, List.getD_cons_succ]

theorem glyphPixels_eq_wordEvents (surfW y xa : Word) (cols : List Half) :
    glyphPixels surfW y xa cols = Ref.wordEvents surfW y xa cols := by
  induction cols generalizing xa with
  | nil => rfl
  | cons col cols ih => rw [glyphPixels, ih, wordEvents_cons]

variable {s : State} {rs : List Font.Record} {r : Font.Record}

/-- The working registers GLYPH sets whether or not it is truncated (R177 to R182). -/
theorem glyphEffect_scratch (s : State) (o : Offset) (d : GlyphData) :
    (glyphEffect s o d).o = o ∧ (glyphEffect s o d).g = BitVec.ofNat 17 d.g ∧
      (glyphEffect s o d).dg = d.dg ∧ (glyphEffect s o d).w = d.w ∧
      (glyphEffect s o d).gap = gapOf s d ∧
      (inCell s d = true →
        (glyphEffect s o d).esc0 = s.par.esc ∧ (glyphEffect s o d).esc1 = d.k0) := by
  rw [glyphEffect]
  split <;> simp +contextual [glyphScratch]

/-- What GLYPH reads of the record `r` of the font and of the record whose bitmap it uses. -/
def recordData (p : Params) (rs : List Font.Record) (tab : Bool) (r : Font.Record) : GlyphData where
  kl := BitVec.ofNat 8 r.key.length
  k0 := Font.firstByte r
  dg := Ref.digit r
  g := (Ref.used p rs tab r).off
  w := BitVec.ofNat 7 (Font.recordColumns p.col16 (Ref.used p rs tab r)).length
  columns := Font.recordColumns p.col16 (Ref.used p rs tab r)

/-- GLYPH of a record inside a pass has the effect of the record's data (R189). -/
theorem execGlyph_record {o : Offset} (hwf : Font.WellFormed s.par rs) (hr : r ∈ rs)
    (hoff : r.off = o.toNat) (hp : s.phase.inPass = true) :
    exec (.glyph o) s = .next (glyphEffect s o (recordData s.par rs s.tab r)) :=
  execGlyph_of_glyphData hp (hoff ▸ hwf.glyphData hr s.tab)

/-- The column count as a pen quantity is the number of the columns. -/
theorem setWidth_w_recordData (hwf : Font.WellFormed s.par rs) (hr : r ∈ rs) :
    (recordData s.par rs s.tab r).w.setWidth 32 =
      BitVec.ofNat 32 (recordData s.par rs s.tab r).columns.length := by
  have hfits := (hwf.holds (Font.used_mem (p := s.par) hr s.tab)).fits
  apply BitVec.eq_of_toNat_eq
  rw [BitVec.toNat_setWidth, BitVec.toNat_ofNat]
  exact congrArg (· % 2 ^ 32) (hfits.toNat_columnCount s.par.col16)

/-- The key's length as a cursor offset. -/
theorem setWidth_kl_recordData (hwf : Font.WellFormed s.par rs) (hr : r ∈ rs) :
    (recordData s.par rs s.tab r).kl.setWidth 17 = BitVec.ofNat 17 r.key.length := by
  apply BitVec.eq_of_toNat_eq
  rw [BitVec.toNat_setWidth, BitVec.toNat_ofNat]
  exact congrArg (· % 2 ^ 17) (hwf.holds hr).fits.toNat_keyLength

/-- A truncated GLYPH ends its pass; pen, trailing column, digit flag and events stay (R183). -/
theorem glyphEffect_truncated (o : Offset) {d : GlyphData}
    (h : glyphTruncates s.n (glyphReq (inCell s d) d.w (gapOf s d)) s.mwEff = true) :
    (glyphEffect s o d).n = s.n ∧ (glyphEffect s o d).t = s.t ∧ (glyphEffect s o d).pd = s.pd ∧
      (glyphEffect s o d).pixels = s.pixels ∧ (glyphEffect s o d).phase = afterPass s.phase := by
  rw [glyphEffect, if_pos h]
  simp [glyphScratch]

/-- A GLYPH that fits advances pen and cursor, records its last column and digit flag, and is drawn
(R184 to R187, R191). -/
theorem glyphEffect_drawn (o : Offset) {d : GlyphData}
    (h : ¬ glyphTruncates s.n (glyphReq (inCell s d) d.w (gapOf s d)) s.mwEff = true) :
    (glyphEffect s o d).n = s.n + glyphReq (inCell s d) d.w (gapOf s d) ∧
      (glyphEffect s o d).cur = s.cur + d.kl.setWidth 17 ∧
      (glyphEffect s o d).t = d.columns.getLastD 0 ∧ (glyphEffect s o d).pd = d.dg ∧
      (glyphEffect s o d).phase = s.phase ∧
      (glyphEffect s o d).pixels = s.pixels ++ if s.measEff then [] else glyphEvents s d := by
  rw [glyphEffect, if_neg h]
  exact ⟨penAfter_eq _ _ _ _, rfl, rfl, rfl, rfl, rfl⟩

/-- Settles O31: the font's record fixes what GLYPH reads; then the truncation test decides. -/
theorem glyphResult : Obligations.GlyphResult := by
  intro s o rs r hp hrs hr hoff hpass cs w cell gap req lead
  have hwf := Font.wellFormed_of_records (Bool.and_eq_true_iff.1 hp).1 hrs
  let d := recordData s.par rs s.tab r
  have hexec : exec (.glyph o) s = .next (glyphEffect s o d) := execGlyph_record hwf hr hoff hpass
  have hw : d.w.setWidth 32 = w := setWidth_w_recordData hwf hr
  have hgap : gapOf s d = Ref.hasGap (s.n == 0) s.t (cs.headD 0) s.tab (Ref.digit r) s.pd :=
    glyphGap_eq_hasGap _ _ _ _ _ _
  have hreq : glyphReq (inCell s d) d.w (gapOf s d) = req := by
    rw [glyphReq, hw, hgap]
    rfl
  have hevents : glyphEvents s d = Ref.wordEvents (s.surfW.signExtend 32) (s.y.signExtend 32)
      (s.xEff + s.n + gap + lead) cs := by
    rw [glyphEvents, glyphPixels_eq_wordEvents, penAtDraw, leadPad, hw, hgap, ← BitVec.add_assoc,
      ← BitVec.add_assoc]
    rfl
  obtain ⟨ho, hg, hdg, hwidth, hgap', hesc⟩ := glyphEffect_scratch s o d
  refine ⟨_, hexec, ho, hg, hdg, hwidth, hgap'.trans hgap, hesc, fun hstop => ?stop,
    fun hfits => ?draw⟩
  case stop =>
    rw [← glyphTruncates_iff, ← hreq] at hstop
    exact glyphEffect_truncated o hstop
  case draw =>
    rw [← glyphTruncates_iff, ← hreq] at hfits
    obtain ⟨hn, hcur, ht, hpd, hphase, hpixels⟩ := glyphEffect_drawn o hfits
    rw [hreq] at hn
    rw [hevents] at hpixels
    exact ⟨hn, hcur.trans (congrArg (s.cur + ·) (setWidth_kl_recordData hwf hr)), ht, hpd, hphase,
      hpixels⟩

end Sys2Proof.Machine

/-! ### The reference's pass, token by token (R170 to R188) -/

namespace Sys2Proof.Ref

open Font (Record WellFormed)

/-- What one token of the reference's pass asks of the width bound and what it does: the pass stops
where a positive bound lies below `need`, which is 0 for a token that never stops it; otherwise the
pass goes on with `pen` over the text `rest`, and `events` are emitted. -/
structure Move where
  need : Int
  pen : Pen
  rest : List Byte
  events : List (Int × Int)

/-- The columns a GLYPH of `r` draws (R178, R179). -/
def glyphColumns (p : Params) (rs : List Record) (tab : Bool) (r : Record) : List Half :=
  Font.recordColumns p.col16 (used p rs tab r)

/-- The gap before a GLYPH of `r`, in pixels (R180 to R182). -/
def glyphGap (p : Params) (rs : List Record) (tab : Bool) (pen : Pen) (r : Record) : Int :=
  if hasGap (pen.n == 0) pen.t ((glyphColumns p rs tab r).headD 0) tab (digit r) pen.pd then 1
  else 0

/-- The width of a GLYPH of `r` without its gap: the tabular cell or the columns (R183). -/
def glyphBody (p : Params) (rs : List Record) (tab : Bool) (r : Record) : Int :=
  if tab && digit r then 5 else (glyphColumns p rs tab r).length

/-- The leading padding of a GLYPH of `r` (R184). -/
def glyphLead (p : Params) (rs : List Record) (tab : Bool) (r : Record) : Int :=
  if tab && digit r then (5 - ((glyphColumns p rs tab r).length : Int)) / 2 else 0

/-- The pen at the right end of a GLYPH of `r` (R183, R191). -/
def glyphEnd (p : Params) (rs : List Record) (tab : Bool) (pen : Pen) (r : Record) : Int :=
  pen.n + (glyphBody p rs tab r + glyphGap p rs tab pen r)

/-- GLYPH of `r` at the front of the text `q` (R177 to R187). -/
def glyphMove (p : Params) (rs : List Record) (c : Pass) (pen : Pen) (r : Record)
    (q : List Byte) : Move where
  need := glyphEnd p rs c.tab pen r
  pen :=
    { n := glyphEnd p rs c.tab pen r
      t := (glyphColumns p rs c.tab r).getLastD 0
      pd := digit r }
  rest := q.drop r.key.length
  events :=
    if c.meas then []
    else events c (c.x + pen.n + glyphGap p rs c.tab pen r + glyphLead p rs c.tab r)
      (glyphColumns p rs c.tab r)

/-- The token at the front of the text `b :: q` (R173). -/
def move (p : Params) (rs : List Record) (c : Pass) (pen : Pen) (b : Byte) (q : List Byte) : Move :=
  if b = Config.spaceByte then
    { need := pen.n + 4, pen := { pen with n := pen.n + 3, t := 0 }, rest := q, events := [] }
  else if b = p.kreset then { need := 0, pen := { pen with t := 0 }, rest := q, events := [] }
  else
    match find rs (b :: q) with
    | none => { need := 0, pen := pen, rest := q, events := [] }
    | some r => glyphMove p rs c pen r (b :: q)

variable {p : Params} {rs : List Record} {c c' : Pass} {pen : Pen} {b : Byte} {q : List Byte}

/-- The move stops a pass with the operands `c` (R174, R183). -/
abbrev Move.Stops (c : Pass) (m : Move) : Prop := 0 < c.mw ∧ c.mw < m.need

/-- A token without width never stops its pass (R175, R188). -/
theorem not_stops_of_need_zero {m : Move} (h : m.need = 0) : ¬ m.Stops c := by
  rw [Move.Stops, h]
  omega

theorem move_space (h : b = Config.spaceByte) :
    move p rs c pen b q =
      { need := pen.n + 4, pen := { pen with n := pen.n + 3, t := 0 }, rest := q, events := [] } :=
  if_pos h

theorem move_kreset (hsp : b ≠ Config.spaceByte) (h : b = p.kreset) :
    move p rs c pen b q = { need := 0, pen := { pen with t := 0 }, rest := q, events := [] } := by
  rw [move, if_neg hsp, if_pos h]

theorem move_skip (hsp : b ≠ Config.spaceByte) (hkr : b ≠ p.kreset) (h : find rs (b :: q) = none) :
    move p rs c pen b q = { need := 0, pen := pen, rest := q, events := [] } := by
  rw [move, if_neg hsp, if_neg hkr, h]

theorem move_glyph {r : Record} (hsp : b ≠ Config.spaceByte) (hkr : b ≠ p.kreset)
    (h : find rs (b :: q) = some r) :
    move p rs c pen b q = glyphMove p rs c pen r (b :: q) := by
  rw [move, if_neg hsp, if_neg hkr, h]

theorem scan_nil (k : Nat) : scan p rs c k pen [] = (pen.n, []) := by
  cases k <;> rfl

/-- Every move is a space's, that of a token without width (R175, R188), or a record's GLYPH. -/
theorem move_cases (p : Params) (rs : List Record) (c : Pass) (pen : Pen) (b : Byte)
    (q : List Byte) :
    move p rs c pen b q =
        { need := pen.n + 4, pen := { pen with n := pen.n + 3, t := 0 }, rest := q, events := [] } ∨
      (∃ pen' : Pen, pen'.n = pen.n ∧
        move p rs c pen b q = { need := 0, pen := pen', rest := q, events := [] }) ∨
      ∃ r ∈ rs, move p rs c pen b q = glyphMove p rs c pen r (b :: q) := by
  by_cases hsp : b = Config.spaceByte
  · exact .inl (move_space hsp)
  by_cases hkr : b = p.kreset
  · exact .inr (.inl ⟨{ pen with t := 0 }, rfl, move_kreset hsp hkr⟩)
  cases hf : find rs (b :: q) with
  | none => exact .inr (.inl ⟨_, rfl, move_skip hsp hkr hf⟩)
  | some r => exact .inr (.inr ⟨r, List.mem_of_find?_eq_some hf, move_glyph hsp hkr hf⟩)

/-- A pass's next token: its move stops the pass, or the pass goes on from what the move leaves. -/
theorem scan_cons (k : Nat) :
    scan p rs c (k + 1) pen (b :: q) =
      if (move p rs c pen b q).Stops c then (pen.n, [])
      else
        ((scan p rs c k (move p rs c pen b q).pen (move p rs c pen b q).rest).1,
          (move p rs c pen b q).events ++
            (scan p rs c k (move p rs c pen b q).pen (move p rs c pen b q).rest).2) := by
  rw [scan]
  by_cases hsp : b = Config.spaceByte
  · have hstops : c.mw ≤ pen.n + 3 ↔ c.mw < pen.n + 4 := by omega
    rw [if_pos hsp, move_space hsp]
    simp only [hstops, List.nil_append]
  rw [if_neg hsp]
  by_cases hkr : b = p.kreset
  · rw [if_pos hkr, move_kreset hsp hkr, if_neg (not_stops_of_need_zero rfl)]
    rfl
  rw [if_neg hkr]
  cases hf : find rs (b :: q) with
  | none =>
    rw [move_skip hsp hkr hf, if_neg (not_stops_of_need_zero rfl)]
    rfl
  | some r =>
    rw [move_glyph hsp hkr hf]
    rfl

theorem scan_stop (k : Nat) (h : (move p rs c pen b q).Stops c) :
    scan p rs c (k + 1) pen (b :: q) = (pen.n, []) := by
  rw [scan_cons, if_pos h]

theorem scan_go (k : Nat) (h : ¬ (move p rs c pen b q).Stops c) :
    scan p rs c (k + 1) pen (b :: q) =
      ((scan p rs c k (move p rs c pen b q).pen (move p rs c pen b q).rest).1,
        (move p rs c pen b q).events ++
          (scan p rs c k (move p rs c pen b q).pen (move p rs c pen b q).rest).2) := by
  rw [scan_cons, if_neg h]

/-! What a move is, apart from the drawing, depends on the operand `tab` alone. -/

theorem move_congr (p : Params) (rs : List Record) (pen : Pen) (b : Byte) (q : List Byte)
    (htab : c'.tab = c.tab) :
    (move p rs c' pen b q).need = (move p rs c pen b q).need ∧
      (move p rs c' pen b q).pen = (move p rs c pen b q).pen ∧
      (move p rs c' pen b q).rest = (move p rs c pen b q).rest := by
  rw [move, move]
  split_ifs
  · exact ⟨rfl, rfl, rfl⟩
  · exact ⟨rfl, rfl, rfl⟩
  · cases find rs (b :: q) with
    | none => exact ⟨rfl, rfl, rfl⟩
    | some r => simp only [glyphMove, htab, and_self]

/-- The width of a pass depends on its bound and on TABULAR alone (R192). -/
theorem scan_width_congr (hmw : c'.mw = c.mw) (htab : c'.tab = c.tab) (k : Nat) :
    (scan p rs c' k pen q).1 = (scan p rs c k pen q).1 := by
  induction k generalizing pen q with
  | zero => rfl
  | succ k ih =>
    cases q with
    | nil => rfl
    | cons b q =>
      obtain ⟨hneed, hpen, hrest⟩ := move_congr p rs pen b q htab
      have hstops : (move p rs c' pen b q).Stops c' ↔ (move p rs c pen b q).Stops c := by
        rw [Move.Stops, Move.Stops, hneed, hmw]
      by_cases hstop : (move p rs c pen b q).Stops c
      · rw [scan_stop k hstop, scan_stop k (hstops.2 hstop)]
      · rw [scan_go k hstop, scan_go k (mt hstops.1 hstop), hpen, hrest, ih]

/-- A pass that only measures emits nothing (R218). -/
theorem scan_events_of_meas (h : c.meas = true) (k : Nat) : (scan p rs c k pen q).2 = [] := by
  induction k generalizing pen q with
  | zero => rfl
  | succ k ih =>
    cases q with
    | nil => rfl
    | cons b q =>
      have hevents : (move p rs c pen b q).events = [] := by
        obtain hm | ⟨_, -, hm⟩ | ⟨r, -, hm⟩ := move_cases p rs c pen b q <;> rw [hm]
        exact if_pos h
      rw [scan_cons]
      split_ifs
      · rfl
      · dsimp only
        rw [hevents, ih, List.nil_append]

/-! ### How a pass of the reference advances (R183, R191, R226, R231) -/

/-- A record of the font has 1 to 127 columns (R96, R139). -/
theorem glyphColumns_length (hwf : WellFormed p rs) {r : Record} (hr : r ∈ rs) (tab : Bool) :
    0 < (glyphColumns p rs tab r).length ∧ (glyphColumns p rs tab r).length ≤ 127 := by
  have hmem := Font.used_mem (p := p) hr tab
  have hcount := (hwf.holds hmem).fits.toNat_columnCount p.col16
  exact ⟨Font.columnCount_pos_of_shapeOk (hwf.shapes _ hmem) p.col16, by
    rw [glyphColumns, ← hcount]
    omega⟩

theorem glyphGap_bounds (tab : Bool) (r : Record) :
    0 ≤ glyphGap p rs tab pen r ∧ glyphGap p rs tab pen r ≤ 1 := by
  rw [glyphGap]
  split_ifs <;> omega

theorem glyphLead_bounds (tab : Bool) (r : Record) (hlen : (glyphColumns p rs tab r).length ≤ 127) :
    -61 ≤ glyphLead p rs tab r ∧ glyphLead p rs tab r ≤ 2 := by
  rw [glyphLead]
  split_ifs <;> omega

theorem glyphBody_pos (hwf : WellFormed p rs) {r : Record} (hr : r ∈ rs) (tab : Bool) :
    0 < glyphBody p rs tab r := by
  have hlen := (glyphColumns_length hwf hr tab).1
  rw [glyphBody]
  split_ifs <;> omega

/-- A move never stops the pass and leaves the pen where it is; or it is a space's; or it needs the
width up to the pen's new place, which lies further right. -/
theorem move_advance (hwf : WellFormed p rs) (c : Pass) (pen : Pen) (b : Byte) (q : List Byte) :
    ((move p rs c pen b q).need = 0 ∧ (move p rs c pen b q).pen.n = pen.n) ∨
      ((move p rs c pen b q).need = pen.n + 4 ∧ (move p rs c pen b q).pen.n = pen.n + 3) ∨
      ((move p rs c pen b q).need = (move p rs c pen b q).pen.n ∧
        pen.n < (move p rs c pen b q).pen.n) := by
  obtain h | ⟨pen', hn, h⟩ | ⟨r, hr, h⟩ := move_cases p rs c pen b q <;> rw [h]
  · exact .inr (.inl ⟨rfl, rfl⟩)
  · exact .inl ⟨rfl, hn⟩
  · have hbody := glyphBody_pos hwf hr c.tab
    have hgap := (glyphGap_bounds (p := p) (rs := rs) (pen := pen) c.tab r).1
    exact .inr (.inr ⟨rfl, by simp only [glyphMove, glyphEnd]; omega⟩)

theorem move_pen_le (hwf : WellFormed p rs) (c : Pass) (pen : Pen) (b : Byte) (q : List Byte) :
    pen.n ≤ (move p rs c pen b q).pen.n := by
  rcases move_advance hwf c pen b q with ⟨-, h⟩ | ⟨-, h⟩ | ⟨-, h⟩ <;> omega

/-- A move consumes at least one byte (R31, R291). -/
theorem move_rest_length_le (hwf : WellFormed p rs) (c : Pass) (pen : Pen) (b : Byte)
    (q : List Byte) : (move p rs c pen b q).rest.length ≤ q.length := by
  obtain h | ⟨_, -, h⟩ | ⟨r, hr, h⟩ := move_cases p rs c pen b q <;> rw [h]
  have hkey := (hwf.holds hr).fits.key_pos
  simp only [glyphMove, List.length_drop, List.length_cons]
  omega

/-- The pen of a pass never goes back (R191). -/
theorem le_scan (hwf : WellFormed p rs) (c : Pass) (k : Nat) (pen : Pen) (q : List Byte) :
    pen.n ≤ (scan p rs c k pen q).1 := by
  induction k generalizing pen q with
  | zero => exact le_rfl
  | succ k ih =>
    cases q with
    | nil => exact le_rfl
    | cons b q =>
      rw [scan_cons]
      split_ifs
      · exact le_rfl
      · exact (move_pen_le hwf c pen b q).trans (ih _ _)

/-- A pass stays within a positive bound (R226). -/
theorem scan_le_bound (hwf : WellFormed p rs) (hmw : 0 < c.mw) (k : Nat) (hpen : pen.n ≤ c.mw) :
    (scan p rs c k pen q).1 ≤ c.mw := by
  induction k generalizing pen q with
  | zero => exact hpen
  | succ k ih =>
    cases q with
    | nil => exact hpen
    | cons b q =>
      rw [scan_cons]
      split_ifs with hstop
      · exact hpen
      · refine ih ?_
        rw [Move.Stops] at hstop
        rcases move_advance hwf c pen b q with ⟨-, h⟩ | ⟨hneed, h⟩ | ⟨hneed, h⟩ <;> omega

/-- A pass bounded by the width of an earlier one over the same text takes the same tokens, but for
a space that the earlier one ended with (R231). -/
theorem scan_rebound (hwf : WellFormed p rs) (htab : c'.tab = c.tab) (k : Nat)
    (hmw : c'.mw = (scan p rs c k pen q).1) (hpos : 0 < c'.mw) :
    (scan p rs c' k pen q).1 = c'.mw ∨ (scan p rs c' k pen q).1 = c'.mw - 3 := by
  induction k generalizing pen q with
  | zero => exact .inl hmw.symm
  | succ k ih =>
    cases q with
    | nil => exact .inl hmw.symm
    | cons b q =>
      obtain ⟨hneed, hpen, hrest⟩ := move_congr p rs pen b q htab
      have hadvance := move_advance hwf c pen b q
      by_cases hstop : (move p rs c pen b q).Stops c
      · have hstop' : (move p rs c' pen b q).Stops c' := by
          rw [scan_stop k hstop] at hmw
          rw [Move.Stops] at hstop
          rw [Move.Stops, hneed]
          omega
        rw [scan_stop k hstop] at hmw
        rw [scan_stop k hstop']
        exact .inl hmw.symm
      · rw [scan_go k hstop] at hmw
        have hle := le_scan hwf c k (move p rs c pen b q).pen (move p rs c pen b q).rest
        by_cases hstop' : (move p rs c' pen b q).Stops c'
        · rw [scan_stop k hstop']
          rw [Move.Stops, hneed] at hstop'
          refine .inr ?_
          dsimp only at hmw ⊢
          omega
        · rw [scan_go k hstop', hpen, hrest]
          exact ih hmw

/-! ### Where a pass of the reference draws (R185, R225) -/

/-- The events of some columns stand at those columns. -/
theorem mem_events {xa : Int} {cs : List Half} {e : Int × Int} (he : e ∈ events c xa cs) :
    xa ≤ e.1 ∧ e.1 < xa + cs.length := by
  rw [events, List.mem_flatMap] at he
  obtain ⟨j, hj, he⟩ := he
  rw [List.mem_range] at hj
  split_ifs at he
  · rw [List.mem_filterMap] at he
    obtain ⟨r, -, he⟩ := he
    split_ifs at he
    obtain rfl := Option.some.inj he
    dsimp only
    omega
  · cases he

/-- No tabular digit of the font is wider than its cell (R225, R288). -/
def NarrowDigits (p : Params) (rs : List Record) (tab : Bool) : Prop :=
  tab = true → ∀ r ∈ rs, digit r = true → (glyphColumns p rs true r).length ≤ 5

/-- A move draws between the pen's old place and its new one. -/
theorem move_events_within (hnarrow : NarrowDigits p rs c.tab)
    {e : Int × Int} (he : e ∈ (move p rs c pen b q).events) :
    c.x + pen.n ≤ e.1 ∧ e.1 < c.x + (move p rs c pen b q).pen.n := by
  obtain h | ⟨_, -, h⟩ | ⟨r, hr, h⟩ := move_cases p rs c pen b q <;> rw [h] at he ⊢
  · cases he
  · cases he
  · have hgap := glyphGap_bounds (p := p) (rs := rs) (pen := pen) c.tab r
    simp only [glyphMove] at he ⊢
    split_ifs at he
    · cases he
    have hcols := mem_events he
    rw [glyphLead] at hcols
    rw [glyphEnd, glyphBody]
    cases hcell : c.tab && digit r with
    | false =>
      simp only [hcell, Bool.false_eq_true, if_false] at hcols ⊢
      omega
    | true =>
      obtain ⟨htab, hdigit⟩ := Bool.and_eq_true_iff.1 hcell
      have hlen := hnarrow htab r hr hdigit
      rw [← htab] at hlen
      simp only [hcell, if_true] at hcols ⊢
      omega

/-- A pass draws between the pen it starts with and the width it returns (R225). -/
theorem scan_events_within (hwf : WellFormed p rs) (hnarrow : NarrowDigits p rs c.tab) (k : Nat)
    {e : Int × Int} (he : e ∈ (scan p rs c k pen q).2) :
    c.x + pen.n ≤ e.1 ∧ e.1 < c.x + (scan p rs c k pen q).1 := by
  induction k generalizing pen q with
  | zero => cases he
  | succ k ih =>
    cases q with
    | nil => cases he
    | cons b q =>
      by_cases hstop : (move p rs c pen b q).Stops c
      · rw [scan_stop k hstop] at he
        cases he
      · rw [scan_go k hstop] at he ⊢
        have hpen := move_pen_le hwf c pen b q
        have hle := le_scan hwf c k (move p rs c pen b q).pen (move p rs c pen b q).rest
        dsimp only at he ⊢
        rcases List.mem_append.1 he with he | he
        · have := move_events_within hnarrow he
          omega
        · have := ih he
          omega

end Sys2Proof.Ref

/-! ### The engine's pass against the reference's (R170 to R188, R232) -/

namespace Sys2Proof.Machine

open Host (Outcome)
open Font (Record WellFormed)

/-- The text without its first bytes is the text further up. -/
theorem drop_textBytes (m : Memory) (base len k : Nat) :
    (textBytes m base len).drop k = textBytes m (base + k) (len - k) := by
  refine List.ext_getElem (by simp) fun i _ _ => ?_
  simp [textBytes, Nat.add_assoc]

/-- A cursor that moves on by `k` bytes leaves the text without them (R31). -/
theorem remainingText_of_cur {s t : State} (keeps : TokenKeeps s t) {k : Nat}
    (hcur : t.cur.toNat = s.cur.toNat + k) : remainingText t = (remainingText s).drop k := by
  rw [remainingText, remainingText, drop_textBytes, keeps.text, keeps.textBase, keeps.textLen, hcur,
    Nat.add_assoc, Nat.sub_add_eq]

@[simp] theorem length_remainingText (s : State) :
    (remainingText s).length = s.textLen.toNat - s.cur.toNat :=
  length_textBytes _ _ _

/-- At the start of a pass the whole text remains (R171). -/
theorem remainingText_of_cur_zero {s : State} (h : s.cur = 0) :
    remainingText s = commandText s := by
  rw [remainingText, commandText, h]
  rfl

/-! The engine's words and the reference's integers agree: nothing in a pass overflows (R232). -/

/-- The width a GLYPH needs, as a word, is the reference's (R183). -/
theorem toNat_req (cell gap : Bool) {len : Nat} (hlen : len ≤ 127) :
    ((if cell then 5 else BitVec.ofNat 32 len) + (if gap then 1 else 0) : Word).toNat =
      (if cell then 5 else len) + (if gap then 1 else 0) := by
  have hw : (BitVec.ofNat 32 len).toNat = len := Nat.mod_eq_of_lt (by omega)
  rw [BitVec.toNat_add]
  cases cell <;> cases gap <;> simp [hw] <;> omega

/-- The leading padding, as a word, is the reference's (R184). -/
theorem toInt_lead (cell : Bool) {len : Nat} (hlen : len ≤ 127) :
    (if cell then (5 - BitVec.ofNat 32 len).sshiftRight 1 else 0 : Word).toInt =
      if cell then (5 - (len : Int)) / 2 else 0 := by
  cases cell with
  | false => rfl
  | true =>
    have hw : (BitVec.ofNat 32 len).toInt = len := by
      have hnat : (BitVec.ofNat 32 len).toNat = len := Nat.mod_eq_of_lt (by omega)
      rw [BitVec.toInt_eq_toNat_of_lt (by omega), hnat]
    have h5 : (5 : Word).toInt = 5 := rfl
    have hsub : (5 - BitVec.ofNat 32 len).toInt = 5 - (len : Int) := by
      rw [BitVec.toInt_sub, hw, h5]
      exact Int.bmod_eq_of_le (by omega) (by omega)
    exact (toInt_floor2 _).trans (congrArg (· / 2) hsub)

/-- Two words far from the ends of 32 bits add as integers. -/
theorem toInt_add_of_near {a b : Word} (ha : -1073741824 ≤ a.toInt) (ha' : a.toInt < 1073741824)
    (hb : -1073741824 ≤ b.toInt) (hb' : b.toInt < 1073741824) :
    (a + b).toInt = a.toInt + b.toInt := by
  rw [BitVec.toInt_add]
  exact Int.bmod_eq_of_le (by omega) (by omega)

/-- The events of some columns, as integers, are the reference's (R185). -/
theorem map_point_wordEvents {c : Ref.Pass} {surfW y : Half} {xa : Word} {cs : List Half}
    (hs : surfW.toInt = c.surfW) (hy : y.toInt = c.y) (hlo : -536870912 ≤ xa.toInt)
    (hhi : xa.toInt < 536870912) (hlen : cs.length ≤ 127) :
    (Ref.wordEvents (sext32 surfW) (sext32 y) xa cs).map Ref.point =
      Ref.events c xa.toInt cs := by
  rw [Ref.wordEvents, Ref.events, List.map_flatMap]
  refine List.flatMap_congr fun j hj => ?_
  rw [List.mem_range] at hj
  have hnat : (BitVec.ofNat 32 j).toNat = j := Nat.mod_eq_of_lt (by omega)
  have hj' : (BitVec.ofNat 32 j).toInt = j := by
    rw [BitVec.toInt_eq_toNat_of_lt (by omega), hnat]
  have hx : (xa + BitVec.ofNat 32 j).toInt = xa.toInt + j := by
    rw [toInt_add_of_near (by omega) (by omega) (by omega) (by omega), hj']
  simp only [hx, toInt_sext32, hs]
  split_ifs
  · rw [List.map_filterMap]
    refine List.filterMap_congr fun r hr => ?_
    rw [List.mem_range] at hr
    split_ifs
    · simp only [Option.map_some, Ref.point, hx, toInt_row y hr, hy]
    · rfl
  · rfl

/-! ### One token (R173 to R188) -/

/-- The pass that runs in `u` has the operands `c`; its origin is far from the ends of 32 bits
(R30, R170, R232). -/
structure PassIs (p : Params) (c : Ref.Pass) (u : State) : Prop where
  par : u.par = p
  x : u.xEff.toInt = c.x
  y : u.y.toInt = c.y
  mw : u.mwEff.toInt = c.mw
  surfW : u.surfW.toInt = c.surfW
  tab : u.tab = c.tab
  meas : u.measEff = c.meas
  lower : -16777216 ≤ c.x
  upper : c.x ≤ 16777216

/-- What the pass that runs in `u` carries from token to token is `pen` (R44). -/
structure PenIs (pen : Ref.Pen) (u : State) : Prop where
  n : u.n.toInt = pen.n
  t : u.t = pen.t
  pd : u.pd = pen.pd

theorem PassIs.of_keeps {p : Params} {c : Ref.Pass} {u t : State} (h : PassIs p c u)
    (keeps : TokenKeeps u t) : PassIs p c t where
  par := keeps.par.trans h.par
  x := by rw [keeps.xEff, h.x]
  y := by rw [keeps.y, h.y]
  mw := by rw [keeps.mwEff, h.mw]
  surfW := by rw [keeps.surfW, h.surfW]
  tab := keeps.tab.trans h.tab
  meas := keeps.measEff.trans h.meas
  lower := h.lower
  upper := h.upper

/-- A token took `u` to `t` as the reference's `m` does: where `m` stops the pass it ends with pen
and events as they stood, else it goes on with the pen, the text and the events of `m`. -/
structure TokenRefines (c : Ref.Pass) (m : Ref.Move) (u t : State) : Prop where
  stops : m.Stops c → t.phase = afterPass u.phase ∧ t.n = u.n ∧ t.pixels = u.pixels
  goes : ¬ m.Stops c → t.phase = u.phase ∧ PenIs m.pen t ∧ remainingText t = m.rest ∧
    t.pixels.map Ref.point = u.pixels.map Ref.point ++ m.events

section Token

variable {p : Params} {rs : List Record} {c : Ref.Pass} {pen : Ref.Pen} {u t : State} {b : Byte}
  {q : List Byte}

/-- The pen of a pass is far from the ends of 32 bits (R191, R232). -/
theorem PenOk.le_far (h : PenOk u) : u.n.toInt ≤ 8388480 := by
  have hcur := h.cur_le
  have hbytes := h.le_bytes
  have hlen := u.textLen.isLt
  omega

/-- One byte consumed leaves the rest of the text. -/
theorem remainingText_of_cur_succ (hr : remainingText u = b :: q) (keeps : TokenKeeps u t)
    (hcur : t.cur = u.cur + 1) : remainingText t = q := by
  have hlen := congrArg List.length hr
  rw [length_remainingText, List.length_cons] at hlen
  have htext := u.textLen.isLt
  have hcur' : t.cur.toNat = u.cur.toNat + 1 := by
    rw [hcur]
    exact advance_cur_toNat (k := 1) (by omega) (by decide)
  rw [remainingText_of_cur keeps hcur', hr]
  rfl

/-- SP is the reference's move for the space byte (R174). -/
theorem execSp_refines (hok : PenOk u) (hpass : PassIs p c u) (hpen : PenIs pen u)
    (hr : remainingText u = b :: q) (hb : b = Config.spaceByte) (h : execSp u = .next t) :
    TokenRefines c (Ref.move p rs c pen b q) u t := by
  have keeps := execToken_keeps (i := .sp) h
  have hfar := hok.le_far
  have hn : (u.n + 3#32).toInt = pen.n + 3 := by
    rw [toInt_add_of_small hok.nonneg (by omega) (by decide), hpen.n]
    rfl
  have htest : spaceTruncates u.n u.mwEff = true ↔ (Ref.move p rs c pen b q).Stops c := by
    rw [spaceTruncates_iff, hn, hpass.mw, Ref.move_space hb, Ref.Move.Stops]
    dsimp only
    omega
  obtain ⟨-, ⟨hc, rfl⟩ | ⟨hc, rfl⟩⟩ := execSp_next h
  · exact ⟨fun _ => by simp, fun hgo => absurd (htest.1 hc) hgo⟩
  · refine ⟨fun hstop => absurd (htest.2 hstop) (by simp [hc]), fun _ => ?_⟩
    rw [Ref.move_space hb]
    exact ⟨rfl, ⟨hn, rfl, hpen.pd⟩, remainingText_of_cur_succ hr keeps rfl, by simp⟩

/-- KR is the reference's move for the kerning-reset byte (R175). -/
theorem execKr_refines (hpen : PenIs pen u) (hr : remainingText u = b :: q)
    (hsp : b ≠ Config.spaceByte) (hb : b = p.kreset) (h : execKr u = .next t) :
    TokenRefines c (Ref.move p rs c pen b q) u t := by
  have keeps := execToken_keeps (i := .kr) h
  obtain ⟨-, rfl⟩ := execKr_next h
  rw [Ref.move_kreset hsp hb]
  refine ⟨fun hstop => absurd hstop (Ref.not_stops_of_need_zero rfl), fun _ => ?_⟩
  exact ⟨rfl, ⟨hpen.n, rfl, hpen.pd⟩, remainingText_of_cur_succ hr keeps rfl, by simp⟩

/-- SKIP is the reference's move for a byte that begins no key (R188). -/
theorem execSkip_refines (hpen : PenIs pen u) (hr : remainingText u = b :: q)
    (hsp : b ≠ Config.spaceByte) (hkr : b ≠ p.kreset) (hf : Ref.find rs (b :: q) = none)
    (h : execSkip b u = .next t) : TokenRefines c (Ref.move p rs c pen b q) u t := by
  have keeps := execToken_keeps (i := .skip b) h
  obtain ⟨-, rfl⟩ := execSkip_next h
  rw [Ref.move_skip hsp hkr hf]
  refine ⟨fun hstop => absurd hstop (Ref.not_stops_of_need_zero rfl), fun _ => ?_⟩
  exact ⟨rfl, ⟨hpen.n, hpen.t, hpen.pd⟩, remainingText_of_cur_succ hr keeps rfl, by simp⟩

/-- The pen is at 0 in the engine when it is in the reference. -/
theorem PenIs.n_beq_zero (h : PenIs pen u) : (u.n == 0) = (pen.n == 0) := by
  rw [Bool.eq_iff_iff, beq_iff_eq, beq_iff_eq, ← h.n, ← BitVec.toInt_inj]
  rfl

/-- The key found at the front of the remaining text lies inside the text (R154). -/
theorem cur_after_key {r : Record} (hr : remainingText u = b :: q)
    (hf : Ref.find rs (b :: q) = some r) :
    (u.cur + BitVec.ofNat 17 r.key.length).toNat = u.cur.toNat + r.key.length := by
  rw [Ref.find] at hf
  have hkey : r.key.isPrefixOf (b :: q) = true := by simpa using List.find?_some hf
  have hle := (List.isPrefixOf_iff_prefix.1 hkey).length_le
  rw [← hr, length_remainingText] at hle
  have htext := u.textLen.isLt
  rw [BitVec.toNat_add, BitVec.toNat_ofNat]
  omega

/-- The gap before a GLYPH of `r` in `u`, by the engine's word for the pen (R180 to R182). -/
def engineGap (p : Params) (rs : List Record) (r : Record) (u : State) : Bool :=
  Ref.hasGap (u.n == 0) u.t ((Ref.glyphColumns p rs u.tab r).headD 0) u.tab (Ref.digit r) u.pd

theorem glyphGap_eq (hpen : PenIs pen u) (r : Record) :
    Ref.glyphGap p rs u.tab pen r = if engineGap p rs r u then 1 else 0 := by
  rw [Ref.glyphGap, engineGap, hpen.n_beq_zero, hpen.t, hpen.pd]

/-- The width a GLYPH of `r` needs, as GLYPH in `u` computes it (R183). -/
def engineReq (p : Params) (rs : List Record) (r : Record) (u : State) : Word :=
  (if u.tab && Ref.digit r then 5 else BitVec.ofNat 32 (Ref.glyphColumns p rs u.tab r).length) +
    (if engineGap p rs r u then 1 else 0)

/-- Where GLYPH in `u` draws the first column of `r` (R184, R185). -/
def engineOrigin (p : Params) (rs : List Record) (r : Record) (u : State) : Word :=
  u.xEff + u.n + (if engineGap p rs r u then 1 else 0) +
    (if u.tab && Ref.digit r then
      (5 - BitVec.ofNat 32 (Ref.glyphColumns p rs u.tab r).length).sshiftRight 1 else 0)

/-- The pen after a GLYPH does not overflow (R183, R191, R232). -/
theorem toInt_add_engineReq {r : Record} (hok : PenOk u) (hpen : PenIs pen u)
    (hlen : (Ref.glyphColumns p rs u.tab r).length ≤ 127) :
    (u.n + engineReq p rs r u).toInt = Ref.glyphEnd p rs u.tab pen r := by
  have hreq := toNat_req (u.tab && Ref.digit r) (engineGap p rs r u) hlen
  rw [← engineReq] at hreq
  have hfar := hok.le_far
  rw [toInt_add_of_small hok.nonneg (by omega) (by rw [hreq]; split_ifs <;> omega), hreq, hpen.n,
    Ref.glyphEnd, Ref.glyphBody, glyphGap_eq hpen]
  push_cast
  rfl

/-- The place where a GLYPH is drawn does not overflow (R184, R185, R232). -/
theorem toInt_engineOrigin {r : Record} (hok : PenOk u) (hpass : PassIs p c u)
    (hpen : PenIs pen u) (hlen : (Ref.glyphColumns p rs u.tab r).length ≤ 127) :
    (engineOrigin p rs r u).toInt =
        c.x + pen.n + Ref.glyphGap p rs u.tab pen r + Ref.glyphLead p rs u.tab r ∧
      -536870912 ≤ (engineOrigin p rs r u).toInt ∧ (engineOrigin p rs r u).toInt < 536870912 := by
  have hlead := toInt_lead (u.tab && Ref.digit r) hlen
  rw [← Ref.glyphLead] at hlead
  have hleadb := Ref.glyphLead_bounds u.tab r hlen
  have hgap : (if engineGap p rs r u then 1 else 0 : Word).toInt =
      Ref.glyphGap p rs u.tab pen r := by
    rw [glyphGap_eq hpen]
    split_ifs <;> rfl
  have hgapb := Ref.glyphGap_bounds (p := p) (rs := rs) (pen := pen) u.tab r
  obtain ⟨-, hx, -, -, -, -, -, hlower, hupper⟩ := hpass
  have hn := hpen.n
  have hnonneg := hok.nonneg
  have hfar := hok.le_far
  have h1 : (u.xEff + u.n).toInt = c.x + pen.n := by
    rw [toInt_add_of_near (by omega) (by omega) (by omega) (by omega), hx, hn]
  have h2 : (u.xEff + u.n + (if engineGap p rs r u then 1 else 0)).toInt =
      c.x + pen.n + Ref.glyphGap p rs u.tab pen r := by
    rw [toInt_add_of_near (by omega) (by omega) (by omega) (by omega), h1, hgap]
  have h3 : (engineOrigin p rs r u).toInt =
      c.x + pen.n + Ref.glyphGap p rs u.tab pen r + Ref.glyphLead p rs u.tab r := by
    rw [engineOrigin, toInt_add_of_near (by omega) (by omega) (by omega) (by omega), h2, hlead]
  exact ⟨h3, by omega, by omega⟩

/-- What GLYPH of a record does, in terms of the reference's columns (R177 to R187). -/
theorem execGlyph_of_record {o : Offset} {r : Record} (hwfp : u.par.wf = true)
    (hrs : Font.records u.par = some rs) (hr : r ∈ rs) (hoff : r.off = o.toNat)
    (h : execGlyph o u = .next t) :
    (0 < u.mwEff.toInt ∧ u.mwEff.toInt < (u.n + engineReq u.par rs r u).toInt →
        t.n = u.n ∧ t.pixels = u.pixels ∧ t.phase = afterPass u.phase) ∧
      (¬ (0 < u.mwEff.toInt ∧ u.mwEff.toInt < (u.n + engineReq u.par rs r u).toInt) →
        t.n = u.n + engineReq u.par rs r u ∧ t.cur = u.cur + BitVec.ofNat 17 r.key.length ∧
          t.t = (Ref.glyphColumns u.par rs u.tab r).getLastD 0 ∧ t.pd = Ref.digit r ∧
          t.phase = u.phase ∧
          t.pixels = u.pixels ++
            (if u.measEff then []
             else Ref.wordEvents (sext32 u.surfW) (sext32 u.y) (engineOrigin u.par rs r u)
               (Ref.glyphColumns u.par rs u.tab r))) := by
  obtain ⟨t', h', -, -, -, -, -, -, hstops, hgoes⟩ :=
    glyphResult u o rs r hwfp hrs hr hoff (execToken_inPass (i := .glyph o) h)
  obtain rfl : t = t' := Outcome.next.inj (h.symm.trans h')
  refine ⟨fun hstop => ?_, hgoes⟩
  obtain ⟨hn, -, -, hpixels, hphase⟩ := hstops hstop
  exact ⟨hn, hpixels, hphase⟩

/-- GLYPH of the record found is the reference's move for it (R177 to R187). -/
theorem execGlyph_refines {r : Record} (hwfp : p.wf = true) (hrs : Font.records p = some rs)
    (hok : PenOk u) (hpass : PassIs p c u) (hpen : PenIs pen u) (hr : remainingText u = b :: q)
    (hsp : b ≠ Config.spaceByte) (hkr : b ≠ p.kreset) (hf : Ref.find rs (b :: q) = some r)
    (h : execGlyph (BitVec.ofNat 17 r.off) u = .next t) :
    TokenRefines c (Ref.move p rs c pen b q) u t := by
  obtain rfl := hpass.par
  have keeps := execToken_keeps (i := .glyph _) h
  have hwf := Font.wellFormed_of_records (Bool.and_eq_true_iff.1 hwfp).1 hrs
  have hmem := List.mem_of_find?_eq_some hf
  have hoff : r.off = (BitVec.ofNat 17 r.off : Offset).toNat :=
    (Nat.mod_eq_of_lt (by have := (hwf.holds hmem).off_lt; omega)).symm
  have hlen := (Ref.glyphColumns_length hwf hmem u.tab).2
  obtain ⟨hstops, hgoes⟩ := execGlyph_of_record hwfp hrs hmem hoff h
  have hend := toInt_add_engineReq hok hpen hlen
  obtain ⟨horigin, hlo, hhi⟩ := toInt_engineOrigin hok hpass hpen hlen
  have htest : (Ref.move u.par rs c pen b q).Stops c ↔
      0 < u.mwEff.toInt ∧ u.mwEff.toInt < (u.n + engineReq u.par rs r u).toInt := by
    rw [Ref.move_glyph hsp hkr hf, Ref.Move.Stops, hend, hpass.mw, hpass.tab]
    rfl
  refine ⟨fun hstop => ?stop, fun hgo => ?draw⟩
  case stop =>
    obtain ⟨hn, hpixels, hphase⟩ := hstops (htest.1 hstop)
    exact ⟨hphase, hn, hpixels⟩
  case draw =>
    obtain ⟨hn, hcur, ht, hpd, hphase, hpixels⟩ := hgoes (mt htest.2 hgo)
    have hcur' := (congrArg BitVec.toNat hcur).trans (cur_after_key hr hf)
    have hevents := map_point_wordEvents hpass.surfW hpass.y hlo hhi hlen
    rw [horigin] at hevents
    rw [Ref.move_glyph hsp hkr hf, Ref.glyphMove, ← hpass.tab, ← hpass.meas]
    refine ⟨hphase, ⟨hn ▸ hend, ht, hpd⟩, ?_, ?_⟩
    · rw [remainingText_of_cur keeps hcur', hr]
    · rw [hpixels, List.map_append, apply_ite (List.map Ref.point), hevents]
      rfl

/-- The token at the cursor of a pass is executed as the reference's move for it (R173). -/
theorem token_refines (hwfp : p.wf = true) (hrs : Font.records p = some rs)
    (hw : textWraps u = false) (hp : u.phase.inPass = true) (hok : PenOk u) (hpass : PassIs p c u)
    (hpen : PenIs pen u) (hr : remainingText u = b :: q) :
    ∃ i t, fetch u = .next (some i) ∧ execToken i u = .next t ∧
      TokenRefines c (Ref.move p rs c pen b q) u t := by
  obtain rfl := hpass.par
  have hwf := Font.wellFormed_of_records (Bool.and_eq_true_iff.1 hwfp).1 hrs
  have hdecode := decodeToken_eq hwf b q
  have hfetch := fetch_of_remainingText_cons hp hw hr hdecode
  obtain ⟨t, ht⟩ := execToken_progress_of_decodeToken hwf hp hdecode
  refine ⟨_, t, hfetch, ht, ?_⟩
  by_cases hsp : b = Config.spaceByte
  · rw [if_pos hsp] at ht
    exact execSp_refines hok hpass hpen hr hsp ht
  rw [if_neg hsp] at ht
  by_cases hkr : b = u.par.kreset
  · rw [if_pos hkr] at ht
    exact execKr_refines hpen hr hsp hkr ht
  rw [if_neg hkr] at ht
  cases hf : Ref.find rs (b :: q) with
  | none =>
    rw [hf] at ht
    exact execSkip_refines hpen hr hsp hkr hf ht
  | some r =>
    rw [hf] at ht
    exact execGlyph_refines hwfp hrs hok hpass hpen hr hsp hkr hf ht

end Token

/-! ### Runs of ticks -/

/-- One tick of a running command (R221). -/
def Ticks (u t : State) : Prop := u.phase ≠ .idle ∧ tick u = .next t

/-- Some ticks of a running command. -/
abbrev Runs : State → State → Prop := Relation.ReflTransGen Ticks

/-- A command's run goes through every state that its ticks reach. -/
theorem Runs.runCommand {u t v : State} (h : Runs u t) {k : Nat}
    (hk : runCommand k u = .next v) : ∃ j, runCommand j t = .next v := by
  induction h with
  | refl => exact ⟨k, hk⟩
  | tail _ htick ih =>
    obtain ⟨hi, ht⟩ := htick
    obtain ⟨j, hj⟩ := ih
    cases j with
    | zero =>
      rw [Machine.runCommand, if_neg hi] at hj
      cases hj
    | succ j => exact ⟨j, by rwa [runCommand_step hi ht] at hj⟩

/-- A command's run ends in the idle state that its ticks reach. -/
theorem Runs.eq_of_runCommand {u t v : State} (h : Runs u t) (hi : t.phase = .idle) {k : Nat}
    (hk : Machine.runCommand k u = .next v) : v = t := by
  obtain ⟨j, hj⟩ := h.runCommand hk
  rw [runCommand_done hi] at hj
  exact (Outcome.next.inj hj).symm

/-! ### One pass (R170 to R172, R211, R214) -/

/-- The pass that began in `u` has ended in `t` with the width and the events of `r`; a pass without
a bound has consumed the whole text (R172, R226). -/
structure PassEnds (c : Ref.Pass) (u t : State) (r : Int × List (Int × Int)) : Prop where
  keeps : TokenKeeps u t
  pen : PenOk t
  phase : t.phase = afterPass u.phase
  n : t.n.toInt = r.1
  pixels : t.pixels.map Ref.point = u.pixels.map Ref.point ++ r.2
  consumes : c.mw ≤ 0 → t.cur.toNat = t.textLen.toNat

theorem TokenKeeps.trans {s t u : State} (h : TokenKeeps s t) (h' : TokenKeeps t u) :
    TokenKeeps s u where
  illegal := h'.illegal.trans h.illegal
  found := h'.found.trans h.found
  textBase := h'.textBase.trans h.textBase
  textLen := h'.textLen.trans h.textLen
  x := h'.x.trans h.x
  y := h'.y.trans h.y
  maxw := h'.maxw.trans h.maxw
  widthUsed := h'.widthUsed.trans h.widthUsed
  natural := h'.natural.trans h.natural
  resOff := h'.resOff.trans h.resOff
  resInfo := h'.resInfo.trans h.resInfo
  xEff := h'.xEff.trans h.xEff
  mwEff := h'.mwEff.trans h.mwEff
  measEff := h'.measEff.trans h.measEff
  tab := h'.tab.trans h.tab
  n1 := h'.n1.trans h.n1
  text := h'.text.trans h.text
  par := h'.par.trans h.par
  surfW := h'.surfW.trans h.surfW
  reads := h'.reads.trans h.reads
  host := h'.host.trans h.host

section Pass

variable {p : Params} {rs : List Record} {c : Ref.Pass} {pen : Ref.Pen} {u t v : State} {b : Byte}
  {q : List Byte} {r : Int × List (Int × Int)}

theorem PenOk.endPass (h : PenOk u) : PenOk u.endPass where
  cur_le := by simpa using h.cur_le
  nonneg := by simpa using h.nonneg
  le_bytes := by simpa using h.le_bytes
  le_bound := by simpa using h.le_bound

/-- A pass at the end of its text ends there (R172). -/
theorem PassEnds.endOfText (hok : PenOk u) (hpen : PenIs pen u) (hr : remainingText u = []) :
    PassEnds c u u.endPass (pen.n, []) where
  keeps := endPass_tokenKeeps u
  pen := hok.endPass
  phase := by simp
  n := by simpa using hpen.n
  pixels := by simp
  consumes _ := by
    have hlen := congrArg List.length hr
    have hle := hok.cur_le
    rw [length_remainingText, List.length_nil] at hlen
    simp only [State.endPass_cur, State.endPass_textLen]
    omega

theorem ticks_endOfText (hw : textWraps u = false) (hp : u.phase.inPass = true)
    (hr : remainingText u = []) : Ticks u u.endPass := by
  refine ⟨ne_idle_of_inPass hp, ?_⟩
  rw [tick, fetch_of_remainingText_nil hp hw hr]
  exact micro_inPass hp

/-- A token that stops its pass ends it with what the pass had (R193). -/
theorem PassEnds.stop {m : Ref.Move} (keeps : TokenKeeps u t) (hok : PenOk t) (hpen : PenIs pen u)
    (hstop : m.Stops c) (h : TokenRefines c m u t) : PassEnds c u t (pen.n, []) := by
  obtain ⟨hphase, hn, hpixels⟩ := h.stops hstop
  exact
    { keeps := keeps
      pen := hok
      phase := hphase
      n := by rw [hn, hpen.n]
      pixels := by simp [hpixels]
      consumes := fun hmw => absurd hstop.1 (not_lt.2 hmw) }

/-- A token that does not stop its pass is followed by the rest of the pass. -/
theorem PassEnds.cons {m : Ref.Move} (keeps : TokenKeeps u t) (hgo : ¬ m.Stops c)
    (h : TokenRefines c m u t) (hrest : PassEnds c t v r) :
    PassEnds c u v (r.1, m.events ++ r.2) := by
  obtain ⟨hphase, -, -, hpixels⟩ := h.goes hgo
  exact
    { hrest with
      keeps := keeps.trans hrest.keeps
      phase := by rw [hrest.phase, hphase]
      pixels := by rw [hrest.pixels, hpixels, List.append_assoc] }

/-- A pass of the engine runs to its end and does what the reference's pass does (R170 to R188). -/
theorem pass_refines (hwfp : p.wf = true) (hrs : Font.records p = some rs) {k : Nat}
    (hw : textWraps u = false) (hp : u.phase.inPass = true) (hok : PenOk u) (hpass : PassIs p c u)
    (hpen : PenIs pen u) (hk : (remainingText u).length ≤ k) :
    ∃ t, Runs u t ∧ PassEnds c u t (Ref.scan p rs c k pen (remainingText u)) := by
  have hwf := Font.wellFormed_of_records (Bool.and_eq_true_iff.1 hwfp).1 hrs
  have hi := ne_idle_of_inPass hp
  induction k generalizing u pen with
  | zero =>
    have hr := List.eq_nil_of_length_eq_zero (Nat.le_zero.1 hk)
    rw [hr, Ref.scan_nil]
    exact ⟨_, .single (ticks_endOfText hw hp hr), .endOfText hok hpen hr⟩
  | succ k ih =>
    cases hr : remainingText u with
    | nil =>
      rw [Ref.scan_nil]
      exact ⟨_, .single (ticks_endOfText hw hp hr), .endOfText hok hpen hr⟩
    | cons b q =>
      obtain ⟨i, t, hfetch, ht, href⟩ := token_refines hwfp hrs hw hp hok hpass hpen hr
      have keeps := execToken_keeps ht
      have hok' := hok.token hfetch ht
      have htick : Ticks u t := ⟨hi, by rw [tick, hfetch]; exact ht⟩
      by_cases hstop : (Ref.move p rs c pen b q).Stops c
      · rw [Ref.scan_stop k hstop]
        exact ⟨t, .single htick, .stop keeps hok' hpen hstop href⟩
      · obtain ⟨hphase, hpen', hrest, -⟩ := href.goes hstop
        have hw' : textWraps t = false := by rwa [textWraps, keeps.textBase, keeps.textLen]
        have hk' : (remainingText t).length ≤ k := by
          rw [hr, List.length_cons] at hk
          rw [hrest]
          exact (Ref.move_rest_length_le hwf c pen b q).trans (Nat.le_of_succ_le_succ hk)
        obtain ⟨v, hruns, hend⟩ := ih hw' (hphase ▸ hp) hok' (hpass.of_keeps keeps) hpen' hk'
          (hphase ▸ hi)
        rw [Ref.scan_go k hstop, ← hrest]
        exact ⟨v, .head htick hruns, .cons keeps hstop href hend⟩

end Pass

end Sys2Proof.Machine

/-! ### The reference's layout by its drawing pass (R211 to R216) -/

namespace Sys2Proof.Ref

open Font (Record WellFormed)
open Machine (State)

/-- The operands of a pass of the command begun in `s` (R170, R210). -/
def passOf (s : State) (x mw : Int) (tb m : Bool) : Pass :=
  { x := x, y := s.y.toInt, mw := mw, surfW := s.surfW.toInt, tab := tb, meas := m }

/-- The width of the pass at X that MAXW bounds, which an aligned layout measures first (R214). -/
def measured (s : State) (rs : List Record) (tb : Bool) : Int :=
  (pass s rs s.x.toInt s.maxw.toInt tb true).1

/-- The origin of the drawing pass (R211 to R213). -/
def origin (s : State) (rs : List Record) (al : Align) (tb : Bool) : Int :=
  s.x.toInt + shiftOf al (s.maxw.toInt - measured s rs tb)

/-- The bound of the drawing pass (R211, R214). -/
def bound (s : State) (rs : List Record) (al : Align) (tb : Bool) : Int :=
  match al with
  | .left => s.maxw.toInt
  | .right => measured s rs tb
  | .center => measured s rs tb

/-- The drawing pass: the only pass of LAYOUT.L, the second one of LAYOUT.R and LAYOUT.C. -/
def drawn (s : State) (rs : List Record) (al : Align) (tb m : Bool) : Int × List (Int × Int) :=
  pass s rs (origin s rs al tb) (bound s rs al tb) tb m

theorem pass_width_congr (s : State) (rs : List Record) (x x' mw : Int) (tb m m' : Bool) :
    (pass s rs x mw tb m).1 = (pass s rs x' mw tb m').1 :=
  scan_width_congr (c := passOf s x' mw tb m') (c' := passOf s x mw tb m) rfl rfl _

/-- The only pass of LAYOUT.L returns what it measures. -/
theorem drawn_left_width (s : State) (rs : List Record) (tb m : Bool) :
    (drawn s rs .left tb m).1 = measured s rs tb :=
  pass_width_congr s rs _ _ _ tb m true

/-- A layout's results are the measured width and what the drawing pass gives. -/
theorem layout_eq (s : State) (rs : List Record) (al : Align) (tb m : Bool) :
    layout s rs al tb m = (measured s rs tb, (drawn s rs al tb m).1, (drawn s rs al tb m).2) := by
  cases al with
  | left =>
    have hwidth := drawn_left_width s rs tb m
    rw [drawn, origin, bound, shiftOf, Int.add_zero] at hwidth ⊢
    rw [layout, hwidth]
  | right => rfl
  | center => rfl

end Sys2Proof.Ref

/-! ### A LAYOUT command against the reference (R210 to R216) -/

namespace Sys2Proof.Machine

open Font (Record WellFormed)

/-- A pass of a LAYOUT command begun in `s` can start from `v`: the registers it reads are those of
`s`, TABULAR is latched, and nothing has been drawn yet (R210, R214, R217). -/
structure PassInput (s : State) (tb : Bool) (v : State) : Prop where
  textBase : v.textBase = s.textBase
  textLen : v.textLen = s.textLen
  text : v.text = s.text
  y : v.y = s.y
  par : v.par = s.par
  surfW : v.surfW = s.surfW
  tab : v.tab = tb
  illegal : v.illegal = s.illegal
  pixels : v.pixels.map Ref.point = s.pixels.map Ref.point

/-- A LAYOUT command begun in `s` has come to its end in `t` with the results of the reference: the
measured width in NATURAL, the drawing pass's width in WIDTH_USED, its events emitted, and its
origin and bound left in the working registers (log 14). -/
structure LayoutEnds (s : State) (rs : List Record) (al : Align) (tb m : Bool) (t : State) :
    Prop where
  phase : t.phase = .idle
  illegal : t.illegal = s.illegal
  natural : t.natural.toInt = Ref.measured s rs tb
  widthUsed : t.widthUsed.toInt = (Ref.drawn s rs al tb m).1
  pixels : t.pixels.map Ref.point = s.pixels.map Ref.point ++ (Ref.drawn s rs al tb m).2
  xEff : t.xEff.toInt = Ref.origin s rs al tb
  mwEff : t.mwEff.toInt = Ref.bound s rs al tb
  consumes : Ref.bound s rs al tb ≤ 0 → t.cur.toNat = s.textLen.toNat

section Layout

variable {s u t : State} {rs : List Record} {tb m : Bool}

/-- A pass that starts from `v` is the reference's pass over the text of `s` (R170, R171). -/
theorem startPass_refines (hwfp : s.par.wf = true) (hrs : Font.records s.par = some rs)
    (hw : textWraps s = false) {v : State} (hv : PassInput s tb v) {ph : Phase}
    (hp : ph.inPass = true) (xe mwe : Word) (hlower : -16777216 ≤ xe.toInt)
    (hupper : xe.toInt ≤ 16777216) :
    ∃ t, Runs (v.startPass ph xe mwe m) t ∧
      PassEnds (Ref.passOf s xe.toInt mwe.toInt tb m) (v.startPass ph xe mwe m) t
        (Ref.pass s rs xe.toInt mwe.toInt tb m) := by
  have hpass : PassIs s.par (Ref.passOf s xe.toInt mwe.toInt tb m) (v.startPass ph xe mwe m) :=
    { par := hv.par, x := rfl, y := congrArg BitVec.toInt hv.y, mw := rfl,
      surfW := congrArg BitVec.toInt hv.surfW, tab := hv.tab, meas := rfl, lower := hlower,
      upper := hupper }
  have hw' : textWraps (v.startPass ph xe mwe m) = false := by
    rwa [textWraps, State.startPass_textBase, State.startPass_textLen, hv.textBase, hv.textLen]
  have htext : remainingText (v.startPass ph xe mwe m) = commandText s := by
    rw [remainingText_of_cur_zero rfl, commandText, commandText, State.startPass_text,
      State.startPass_textBase, State.startPass_textLen, hv.text, hv.textBase, hv.textLen]
  have hruns := pass_refines hwfp hrs hw' (by simpa using hp) (.of_start rfl rfl) hpass
    (pen := Ref.Pen.start) ⟨rfl, rfl, rfl⟩ (Nat.le_refl _)
  rwa [htext] at hruns

/-- DONE writes a layout's results and ends the command (R216, R221). -/
theorem ticks_done {aligned : Bool} (h : t.phase = .done (.layout aligned)) :
    Ticks t (t.finishLayout aligned) := by
  refine ⟨by simp [h], ?_⟩
  rw [tick_outside (by rw [h]; rfl), micro, h]
  rfl

/-- SHIFT starts the second pass (R214, R221). -/
theorem ticks_shift {mode : AlignMode} (h : t.phase = .shift mode m) :
    Ticks t (t.startPass2 mode m) := by
  refine ⟨by simp [h], ?_⟩
  rw [tick_outside (by rw [h]; rfl), micro, h]

/-- The drawing pass runs to the end of the command (R211, R214, R216). -/
theorem drawingPass_runs {al : Align} {aligned : Bool} (hwfp : s.par.wf = true)
    (hrs : Font.records s.par = some rs) (hw : textWraps s = false) {v : State}
    (hv : PassInput s tb v) {xe mwe : Word} (hx : xe.toInt = Ref.origin s rs al tb)
    (hmw : mwe.toInt = Ref.bound s rs al tb) (hlower : -16777216 ≤ xe.toInt)
    (hupper : xe.toInt ≤ 16777216)
    (hnatural :
      (if aligned then v.n1.toInt else (Ref.drawn s rs al tb m).1) = Ref.measured s rs tb) :
    ∃ t, Runs (v.startPass (.pass2 aligned) xe mwe m) t ∧ LayoutEnds s rs al tb m t := by
  obtain ⟨t, hruns, hends⟩ := startPass_refines (m := m) hwfp hrs hw hv (ph := .pass2 aligned) rfl
    xe mwe hlower hupper
  rw [hx, hmw] at hends
  obtain ⟨keeps, -, hdone, hn, hpixels, hconsumes⟩ := hends
  refine ⟨t.finishLayout aligned, hruns.tail (ticks_done hdone), ?_⟩
  exact
    { phase := rfl
      illegal := keeps.illegal.trans hv.illegal
      natural := by
        rw [State.finishLayout_natural, apply_ite BitVec.toInt, keeps.n1, hn]
        exact hnatural
      widthUsed := hn
      pixels := hpixels.trans (congrArg (· ++ (Ref.drawn s rs al tb m).2) hv.pixels)
      xEff := by rw [State.finishLayout_xEff, keeps.xEff, State.startPass_xEff, hx]
      mwEff := by rw [State.finishLayout_mwEff, keeps.mwEff, State.startPass_mwEff, hmw]
      consumes := fun h => by
        rw [State.finishLayout_cur, hconsumes h, keeps.textLen, State.startPass_textLen,
          hv.textLen] }

/-- A LAYOUT command's first pass can start once TABULAR is latched. -/
theorem PassInput.latched (s : State) (tb : Bool) : PassInput s tb { s with tab := tb } :=
  ⟨rfl, rfl, rfl, rfl, rfl, rfl, rfl, rfl, rfl⟩

/-- The signed range of a 16-bit register. -/
theorem toInt_half_bounds (v : Half) : -32768 ≤ v.toInt ∧ v.toInt ≤ 32767 := by
  have hlo := BitVec.le_toInt v
  have hhi := BitVec.toInt_lt (x := v)
  omega

/-- X is a pass's origin far from the ends of 32 bits. -/
theorem toInt_sext32_bounds (v : Half) :
    -16777216 ≤ (sext32 v).toInt ∧ (sext32 v).toInt ≤ 16777216 := by
  have hv := toInt_half_bounds v
  rw [toInt_sext32]
  omega

/-- LAYOUT.L runs its one pass to completion (R211). -/
theorem layoutLeft_runs (hwfp : s.par.wf = true) (hrs : Font.records s.par = some rs)
    (hw : textWraps s = false) :
    ∃ t, Runs (s.startLayout (.pass2 false) tb m) t ∧ LayoutEnds s rs .left tb m t := by
  have hx : (sext32 s.x).toInt = Ref.origin s rs .left tb := by simp [Ref.origin, Ref.shiftOf]
  obtain ⟨hlower, hupper⟩ := toInt_sext32_bounds s.x
  exact drawingPass_runs hwfp hrs hw (.latched s tb) hx (toInt_sext32 s.maxw) hlower hupper
    (Ref.drawn_left_width s rs tb m)

/-- The alignment whose mode PASS1 and SHIFT carry (R214). -/
def alignOf : AlignMode → Align
  | .right => .right
  | .center => .center

theorem toInt_alignShift (mode : AlignMode) (d : Word) :
    (alignShift mode d).toInt = Ref.shiftOf (alignOf mode) d.toInt := by
  cases mode with
  | right => rfl
  | center => exact toInt_floor2 d

theorem bound_alignOf (s : State) (rs : List Record) (mode : AlignMode) (tb : Bool) :
    Ref.bound s rs (alignOf mode) tb = Ref.measured s rs tb := by
  cases mode <;> rfl

theorem shiftOf_bounds (mode : AlignMode) {d : Int} (hlower : -8421248 ≤ d) (hupper : d ≤ 32767) :
    -8421248 ≤ Ref.shiftOf (alignOf mode) d ∧ Ref.shiftOf (alignOf mode) d ≤ 32767 := by
  cases mode <;> simp only [alignOf, Ref.shiftOf] <;> omega

/-- SHIFT computes the reference's origin: it does not overflow (R214, R232). -/
theorem toInt_shiftedOrigin (mode : AlignMode) {x maxw : Half} {n : Word} (hn : 0 ≤ n.toInt)
    (hn' : n.toInt ≤ 8388480) :
    (sext32 x + alignShift mode (sext32 maxw - n)).toInt =
        x.toInt + Ref.shiftOf (alignOf mode) (maxw.toInt - n.toInt) ∧
      -16777216 ≤ x.toInt + Ref.shiftOf (alignOf mode) (maxw.toInt - n.toInt) ∧
      x.toInt + Ref.shiftOf (alignOf mode) (maxw.toInt - n.toInt) ≤ 16777216 := by
  obtain ⟨hxl, hxu⟩ := toInt_half_bounds x
  obtain ⟨hml, hmu⟩ := toInt_half_bounds maxw
  have hslack : (sext32 maxw - n).toInt = maxw.toInt - n.toInt := by
    rw [BitVec.toInt_sub, toInt_sext32]
    exact Int.bmod_eq_of_le (by omega) (by omega)
  obtain ⟨hsl, hsu⟩ := shiftOf_bounds mode (d := maxw.toInt - n.toInt) (by omega) (by omega)
  have hshift := toInt_alignShift mode (sext32 maxw - n)
  have hx := toInt_sext32 x
  rw [hslack] at hshift
  refine ⟨?_, by omega, by omega⟩
  rw [toInt_add_of_near (by omega) (by omega) (by omega) (by omega), hx, hshift]

/-- The measuring pass of LAYOUT.R and LAYOUT.C runs to SHIFT and draws nothing (R214). -/
theorem measuringPass_runs (mode : AlignMode) (hwfp : s.par.wf = true)
    (hrs : Font.records s.par = some rs) (hw : textWraps s = false) :
    ∃ u, Runs (s.startLayout (.pass1 mode m) tb true) u ∧ u.phase = .shift mode m ∧ PenOk u ∧
      u.n.toInt = Ref.measured s rs tb ∧ u.x = s.x ∧ u.maxw = s.maxw ∧
      PassInput s tb { u with n1 := u.n } := by
  obtain ⟨hlower, hupper⟩ := toInt_sext32_bounds s.x
  obtain ⟨u, hruns, keeps, hok, hphase, hn, hpixels, -⟩ := startPass_refines (m := true) hwfp hrs hw
    (.latched s tb) (ph := .pass1 mode m) rfl (sext32 s.x) (sext32 s.maxw) hlower hupper
  rw [toInt_sext32, toInt_sext32] at hn
  rw [Ref.pass, Ref.scan_events_of_meas rfl, List.append_nil] at hpixels
  exact ⟨u, hruns, hphase, hok, hn, keeps.x, keeps.maxw,
    ⟨keeps.textBase, keeps.textLen, keeps.text, keeps.y, keeps.par, keeps.surfW, keeps.tab,
      keeps.illegal, hpixels⟩⟩

/-- LAYOUT.R and LAYOUT.C run their two passes to completion (R212 to R214). -/
theorem layoutAligned_runs (mode : AlignMode) (hwfp : s.par.wf = true)
    (hrs : Font.records s.par = some rs) (hw : textWraps s = false) :
    ∃ t, Runs (s.startLayout (.pass1 mode m) tb true) t ∧
      LayoutEnds s rs (alignOf mode) tb m t := by
  obtain ⟨u, hruns, hphase, hok, hn, hux, humaxw, hinput⟩ :=
    measuringPass_runs (m := m) (tb := tb) mode hwfp hrs hw
  obtain ⟨hx, hlower, hupper⟩ :=
    toInt_shiftedOrigin mode (x := u.x) (maxw := u.maxw) hok.nonneg hok.le_far
  have horigin : (sext32 u.x + alignShift mode (sext32 u.maxw - u.n)).toInt =
      Ref.origin s rs (alignOf mode) tb := by
    rw [hx, hn, hux, humaxw]
    rfl
  have hbound : u.n.toInt = Ref.bound s rs (alignOf mode) tb := by rw [bound_alignOf, hn]
  obtain ⟨t, hruns', hends⟩ := drawingPass_runs (m := m) (aligned := true) hwfp hrs hw hinput
    horigin hbound (hx ▸ hlower) (hx ▸ hupper) hn
  exact ⟨t, (hruns.tail (ticks_shift hphase)).trans hruns', hends⟩

/-- A legal LAYOUT command's run from CHECK on ends with the reference's results. -/
theorem layout_runs (al : Align) (hwfp : s.par.wf = true) (hrs : Font.records s.par = some rs)
    (hw : textWraps s = false) :
    ∃ t, Runs (s.startLayout (firstPass al m) tb (firstPassMeasures al m)) t ∧
      LayoutEnds s rs al tb m t := by
  cases al with
  | left => exact layoutLeft_runs hwfp hrs hw
  | right => exact layoutAligned_runs .right hwfp hrs hw
  | center => exact layoutAligned_runs .center hwfp hrs hw

/-- What a LAYOUT command answers for a text that does not wrap. -/
theorem layout_ends {al : Align} (hwfp : s.par.wf = true) (hrs : Font.records s.par = some rs)
    (hw : textWraps s = false) (h : exec (layoutInstr al tb m) s = .next t) :
    LayoutEnds s rs al tb m t := by
  rw [exec_layoutInstr] at h
  obtain ⟨v, hruns, hends⟩ := layout_runs (m := m) (tb := tb) al hwfp hrs hw
  rw [command_legal _ (command_next h).1, checkCommand_layout al tb m hw] at h
  obtain rfl := hruns.eq_of_runCommand hends.phase h
  exact hends

/-- A LAYOUT command of an idle engine answers, for a text that does not wrap. -/
theorem layout_completes (al : Align) (hwfp : s.par.wf = true)
    (hrs : Font.records s.par = some rs) (hi : s.phase = .idle) (hw : textWraps s = false) :
    ∃ t, exec (layoutInstr al tb m) s = .next t ∧ LayoutEnds s rs al tb m t := by
  obtain ⟨t, ht⟩ := command_progress (.layout al tb m) hwfp hi
  rw [← exec_layoutInstr] at ht
  exact ⟨t, ht, layout_ends hwfp hrs hw ht⟩

/-- A LAYOUT command's answer in the reference's own terms. -/
theorem layout_refines (al : Align) (hwfp : s.par.wf = true)
    (hrs : Font.records s.par = some rs) (hi : s.phase = .idle) (hw : textWraps s = false) :
    ∃ t, exec (layoutInstr al tb m) s = .next t ∧ t.phase = .idle ∧ t.illegal = s.illegal ∧
      t.natural.toInt = (Ref.layout s rs al tb m).1 ∧
      t.widthUsed.toInt = (Ref.layout s rs al tb m).2.1 ∧
      t.pixels.map Ref.point = s.pixels.map Ref.point ++ (Ref.layout s rs al tb m).2.2 := by
  obtain ⟨t, ht, hends⟩ := layout_completes (tb := tb) (m := m) al hwfp hrs hi hw
  rw [Ref.layout_eq]
  exact ⟨t, ht, hends.phase, hends.illegal, hends.natural, hends.widthUsed, hends.pixels⟩

end Layout

/-! ### The statements about whole LAYOUT commands -/

/-- Settles O36: the engine's pass is the reference's, token by token. -/
theorem layoutLeftRefinesReference : Obligations.LayoutLeftRefinesReference := by
  intro s rs tb m hwfp hrs hi
  exact ⟨fun hw => layout_refines .left hwfp hrs hi (textWraps_eq_false.2 hw),
    fun hw => (wrappingTextIsIllegal s tb m hwfp hi hw).1⟩

/-- Settles O37: both passes are the reference's, and SHIFT computes its origin. -/
theorem layoutAlignedRefinesReference : Obligations.LayoutAlignedRefinesReference := by
  intro s rs tb m hwfp hrs hi
  refine ⟨fun hw => ?legal, fun hw => ?illegal⟩
  case legal =>
    have hw' := textWraps_eq_false.2 hw
    exact ⟨layout_refines .right hwfp hrs hi hw', layout_refines .center hwfp hrs hi hw'⟩
  case illegal =>
    obtain ⟨-, hright, hcenter, -⟩ := wrappingTextIsIllegal s tb m hwfp hi hw
    exact ⟨hright, hcenter⟩

/-- Settles O51: SHIFT's origin and bound are still in the working registers. -/
theorem alignedOriginAndBound : Obligations.AlignedOriginAndBound := by
  intro s t tb m hwfp hw
  obtain ⟨rs, hrs, -⟩ := Font.wellFormed_of_wf hwfp
  have hw' := textWraps_eq_false.2 hw
  refine ⟨fun h => ?right, fun h => ?center⟩
  case right =>
    have hends : LayoutEnds s rs .right tb m t := layout_ends (al := .right) hwfp hrs hw' h
    exact ⟨by rw [hends.xEff, hends.natural]; rfl,
      BitVec.eq_of_toInt_eq (hends.mwEff.trans hends.natural.symm)⟩
  case center =>
    have hends : LayoutEnds s rs .center tb m t := layout_ends (al := .center) hwfp hrs hw' h
    exact ⟨by rw [hends.xEff, hends.natural]; rfl,
      BitVec.eq_of_toInt_eq (hends.mwEff.trans hends.natural.symm)⟩

end Sys2Proof.Machine

namespace Sys2Proof.Ref

open Font (Record WellFormed)
open Machine (State)

variable {s : State} {rs : List Record} {al : Align} {tb m : Bool}

/-- The measured width stays within a positive MAXW (R226). -/
theorem measured_le (hwf : WellFormed s.par rs) (hmw : 0 < s.maxw.toInt) :
    measured s rs tb ≤ s.maxw.toInt :=
  scan_le_bound hwf (c := passOf s s.x.toInt s.maxw.toInt tb true) hmw _ hmw.le

/-- The bound of an aligned layout's second pass is what the first one measured. -/
theorem bound_of_ne_left (hal : al ≠ .left) : bound s rs al tb = measured s rs tb := by
  cases al with
  | left => exact absurd rfl hal
  | right => rfl
  | center => rfl

/-- The second pass of an aligned layout takes what the first one measured, but for a last space
(R231). -/
theorem drawn_rebound (hwf : WellFormed s.par rs) (hal : al ≠ .left)
    (hpos : 0 < measured s rs tb) :
    (drawn s rs al tb m).1 = measured s rs tb ∨ (drawn s rs al tb m).1 = measured s rs tb - 3 := by
  rw [drawn, bound_of_ne_left hal]
  exact scan_rebound hwf (c := passOf s s.x.toInt s.maxw.toInt tb true)
    (c' := passOf s (origin s rs al tb) (measured s rs tb) tb m) rfl _ rfl hpos

/-- The drawing pass draws within its width, where no tabular digit is wider than its cell. -/
theorem drawn_within (hwf : WellFormed s.par rs) (hnarrow : NarrowDigits s.par rs tb)
    {e : Int × Int} (he : e ∈ (drawn s rs al tb m).2) :
    origin s rs al tb ≤ e.1 ∧ e.1 < origin s rs al tb + (drawn s rs al tb m).1 := by
  obtain ⟨hlo, hhi⟩ := scan_events_within hwf hnarrow _ he
  exact ⟨by simpa [Pen.start] using hlo, hhi⟩

end Sys2Proof.Ref

namespace Sys2Proof.Machine

open Font (Record WellFormed)

/-- Settles O50: each pass of the reference keeps to its bound, and one without a bound ends at the
end of the text. -/
theorem widthStaysWithinMaxWidth : Obligations.WidthStaysWithinMaxWidth := by
  intro s t al tb m hwfp h hw
  obtain ⟨rs, hrs, hwf⟩ := Font.wellFormed_of_wf hwfp
  have hends := layout_ends hwfp hrs (textWraps_eq_false.2 hw) h
  refine ⟨fun hmw => ?natural, fun hpos => ?width, ?same, ?consumes⟩
  case natural =>
    rw [hends.natural]
    exact Ref.measured_le hwf hmw
  case width =>
    rw [hends.natural] at hpos
    rw [hends.natural, hends.widthUsed]
    by_cases hal : al = .left
    · rw [hal, Ref.drawn_left_width]
    · rcases Ref.drawn_rebound (m := m) hwf hal hpos with h | h <;> omega
  case same =>
    rintro rfl
    exact BitVec.eq_of_toInt_eq (by rw [hends.widthUsed, hends.natural, Ref.drawn_left_width])
  case consumes =>
    rintro rfl hmw
    exact hends.consumes hmw

/-- Settles O52: the second pass has the bound 0 of LAYOUT.L with MAXW = 0, and a pass's width
depends on nothing else that differs. -/
theorem zeroMeasureDrawsUnbounded : Obligations.ZeroMeasureDrawsUnbounded := by
  intro s t al tb m hwfp hal hw h hzero
  obtain ⟨rs, hrs, -⟩ := Font.wellFormed_of_wf hwfp
  have hw' := textWraps_eq_false.2 hw
  have hi : s.phase = .idle := by
    rw [exec_layoutInstr] at h
    exact (command_next h).1
  have hends := layout_ends hwfp hrs hw' h
  obtain ⟨u, hu, hends'⟩ :=
    layout_completes (s := { s with maxw := 0 }) (tb := tb) (m := m) .left hwfp hrs hi hw'
  refine ⟨u, hu, BitVec.eq_of_toInt_eq ?_⟩
  have hbound : Ref.bound s rs al tb = 0 := by
    rw [Ref.bound_of_ne_left hal, ← hends.natural, hzero]
    rfl
  rw [hends.widthUsed, hends'.widthUsed, Ref.drawn, hbound]
  exact Ref.pass_width_congr s rs _ _ 0 tb m m

/-- Settles O53, by the reference's second pass. -/
theorem secondPassLosesAtMostASpace : Obligations.SecondPassLosesAtMostASpace := by
  intro s t al tb m hwfp hal hw h hpos
  obtain ⟨rs, hrs, hwf⟩ := Font.wellFormed_of_wf hwfp
  have hends := layout_ends hwfp hrs (textWraps_eq_false.2 hw) h
  rw [hends.natural] at hpos
  rw [← BitVec.toInt_inj, hends.natural, hends.widthUsed]
  exact Ref.drawn_rebound hwf hal hpos

/-- Settles O55: the events appended are the reference's, which lie within its width. -/
theorem eventsLieWithinTheWidthUsed : Obligations.EventsLieWithinTheWidthUsed := by
  intro s t rs al tb m hwfp hrs hnarrow hw h
  have hwf := Font.wellFormed_of_records (Bool.and_eq_true_iff.1 hwfp).1 hrs
  have hends := layout_ends hwfp hrs (textWraps_eq_false.2 hw) h
  rw [exec_layoutInstr] at h
  obtain ⟨es, hes, -⟩ := layout_appends_pixels h
  have hpoints : es.map Ref.point = (Ref.drawn s rs al tb m).2 := by
    have hpixels := hends.pixels
    rwa [hes, List.map_append, List.append_cancel_left_eq] at hpixels
  refine ⟨es, hes, fun e he => ?_⟩
  rw [hends.xEff, hends.widthUsed]
  exact Ref.drawn_within hwf hnarrow (hpoints ▸ List.mem_map_of_mem he)

end Sys2Proof.Machine

/-! ### Every step has a next state (R240, R245, R291) -/

namespace Sys2Proof.Machine

variable {s t u : State}

/-- No operation of the host or the platform changes the parameters (R46). -/
theorem HostEffect.par_eq (h : HostEffect s t) : t.par = s.par := by
  cases h with
  | command hc => exact (command_keeps hc).par
  | wrapper hw =>
    obtain ⟨-, v, hv, rfl⟩ := wrapper_next hw
    simpa using (command_keeps hv).par
  | _ => simp

/-- No step changes the parameters (R46). -/
theorem step_par_eq (h : step s = .next t) : t.par = s.par := by
  by_cases hi : s.phase = .idle
  · obtain ⟨rest, heff⟩ := step_idle_next hi h
    exact heff.par_eq
  · rw [step_eq_tick hi] at h
    exact (tick_keeps h).par

theorem isCommand_commandInstr (c : Command) : isCommand (commandInstr c) = true := by
  cases c with
  | layout al tb m => cases al <;> rfl
  | resolve => rfl

/-- An operation that is not finished at once runs a command or a wrapper in the state it is issued
in (R41, R119). -/
theorem isCommand_of_accessOf_run {op : HostOp} {i : Instr} (h : accessOf s op = .run i u) :
    isCommand i = true ∧ u = s := by
  cases op with
  | regWrite k v =>
    rw [accessOf] at h
    split at h
    · obtain ⟨c, -, hw⟩ | hw := writeCmd_cases s v <;> rw [hw] at h <;> cases h
      exact ⟨isCommand_commandInstr c, rfl⟩
    · cases h
  | textLeft base len x y w =>
    cases h
    exact ⟨rfl, rfl⟩
  | textCentered base len x y w =>
    cases h
    exact ⟨rfl, rfl⟩
  | regRead k => cases h
  | placeText a b => cases h
  | setSurfW v => cases h

/-- Under `WF_FONT` every command and wrapper of an idle engine completes (R41, R119, R291). -/
theorem exec_progress_of_isCommand {i : Instr} (hwf : s.par.wf = true) (hi : s.phase = .idle)
    (hc : isCommand i = true) : ∃ t, exec i s = .next t := by
  have wrapped (al : Align) (base len x y w : Word) :
      ∃ t, wrapper al base len x y w s = .next t := by
    obtain ⟨v, hv, -⟩ := wrapper_result al base len x y w hwf hi
    exact ⟨_, hv⟩
  cases i with
  | layoutL tb m => exact command_progress (.layout .left tb m) hwf hi
  | layoutR tb m => exact command_progress (.layout .right tb m) hwf hi
  | layoutC tb m => exact command_progress (.layout .center tb m) hwf hi
  | resolve => exact command_progress .resolve hwf hi
  | textLeft base len x y w => exact wrapped .left base len x y w
  | textCentered base len x y w => exact wrapped .center base len x y w
  | _ => cases hc

/-- An idle engine's step has a next state, whatever the host's next operation is. -/
theorem step_idle_progress (hwf : s.par.wf = true) (hi : s.phase = .idle) :
    ∃ t, step s = .next t := by
  cases hq : s.host with
  | nil => exact ⟨s, step_of_empty hi hq⟩
  | cons op rest =>
    cases ha : accessOf { s with host := rest } op with
    | finished v => exact ⟨v, step_of_finished hi hq ha⟩
    | run i v =>
      obtain ⟨hc, rfl⟩ := isCommand_of_accessOf_run ha
      rw [step_of_run hi hq ha]
      exact exec_progress_of_isCommand hwf hi hc

/-- Every step has a next state: CHECK's own in any case, a later phase's because its text lies in
text memory (R65, R233). -/
theorem step_progress (hwf : s.par.wf = true) (hmid : midCommandOk s) : ∃ t, step s = .next t := by
  obtain ⟨rs, -, hfont⟩ := Font.wellFormed_of_wf hwf
  have later (hp : textChecked s.phase = true) (hi : s.phase ≠ .idle) : ∃ t, step s = .next t := by
    rw [step_eq_tick hi]
    exact tick_progress hfont ((midCommandOk_iff.1 hmid).1 hp)
  cases hp : s.phase with
  | idle => exact step_idle_progress hwf hp
  | check c => exact ⟨_, step_check hp⟩
  | _ => exact later (by rw [hp]; rfl) (by simp [hp])

/-- Settles O57: a step has a next state in every phase, and no step changes the parameters. -/
theorem stepAlwaysProgresses : Obligations.StepAlwaysProgresses := by
  intro s hwf hmid
  obtain ⟨t, ht⟩ := step_progress hwf hmid
  exact ⟨t, ht, by rwa [step_par_eq ht]⟩

end Sys2Proof.Machine

/-! ### Reset, and the bound on a command's run (R47, R270, R271, R291) -/

namespace Sys2Proof.Machine

variable {s : State}

theorem statusWord_powerOn (p : Params) (sw : Half) : statusWord (State.powerOn p sw) = 0 :=
  statusWord_eq _

/-- Every number of the register map reads 0 after reset: STATUS by its two bits, the others by their
registers (R47). -/
theorem regValue_powerOn (p : Params) (sw : Half) (k : Nat) :
    regValue (State.powerOn p sw) k = 0 := by
  unfold regValue
  split
  case h_2 => exact statusWord_powerOn p sw
  all_goals rfl

/-- Settles O1: the register map is read number by number, the rest is the power-on state's own. -/
theorem resetRegistersReadZero : Obligations.ResetRegistersReadZero :=
  ⟨rfl, fun p sw _ => ⟨fun k _ => regValue_powerOn p sw k, rfl, rfl, rfl⟩⟩

/-- A pass over an empty text leaves the pen at its start and draws nothing (R171, R172). -/
theorem pass_of_empty_text (rs : List Font.Record) (x mw : Int) (tab meas : Bool)
    (h : commandText s = []) : Ref.pass s rs x mw tab meas = (0, []) := by
  rw [Ref.pass, h]
  exact Ref.scan_nil _

/-- Settles O3: TEXT_LEN is 0 after reset, so the reference's one pass is over an empty text. -/
theorem layoutAfterResetIsHarmless : Obligations.LayoutAfterResetIsHarmless := by
  intro p sw tb m hwf
  obtain ⟨rs, hrs, -⟩ := Font.wellFormed_of_wf hwf
  obtain ⟨t, ht, hidle, hillegal, hnatural, hwidth, hpixels⟩ :=
    layout_refines (s := State.powerOn p sw) (tb := tb) (m := m) .left hwf hrs rfl rfl
  have hempty : Ref.layout (State.powerOn p sw) rs .left tb m = (0, 0, []) := by
    rw [Ref.layout, pass_of_empty_text _ _ _ _ _ rfl]
  rw [hempty] at hnatural hwidth hpixels
  exact ⟨t, ht, hillegal, BitVec.eq_of_toInt_eq hwidth, BitVec.eq_of_toInt_eq hnatural,
    List.map_eq_nil_iff.1 hpixels, hidle⟩

/-- No text token runs a command, so none answers for a command's bound. -/
theorem exec_token_ne_stepBound {i : Instr} (hc : isCommand i = false) :
    exec i s ≠ .refused .stepBound := by
  cases i with
  | sp => rw [exec, execSp]; split <;> simp
  | kr => rw [exec, execKr]; split <;> simp
  | skip b => rw [exec, execSkip]; split <;> simp
  | glyph o =>
    rw [exec, execGlyph]
    split
    · split <;> simp
    · simp
  | _ => cases hc

/-- Settles O46: a command of an idle engine completes, because the ticks it has left fall with each
one taken (`command_progress`); one issued while another runs is refused as busy. -/
theorem commandsStayWithinStepBound : Obligations.CommandsStayWithinStepBound := by
  intro s i hwf
  cases hc : isCommand i with
  | false => exact exec_token_ne_stepBound hc
  | true =>
    by_cases hi : s.phase = .idle
    · obtain ⟨t, ht⟩ := exec_progress_of_isCommand hwf hi hc
      simp [ht]
    · obtain ⟨-, hbusy, -⟩ := refusalsByName s i hwf
      simp [hbusy hc hi]

end Sys2Proof.Machine
